-- ==== Sys2Proof/Word.lean ====
section
/-!
DEFINITION. The words of the machine: the byte and the 16-bit address (spec 00_scope.md R9, R12).
Their helpers (halves, sign extension, bit tests) stand in Decode.lean.
-/

namespace Sys2Proof

/-- A byte: the width of every register but PC, and of every bus access (00_scope.md R9, 20_memory.md R153). -/
abbrev Byte := BitVec 8

/-- A 16-bit CPU address: the width of PC and of the CPU address bus (00_scope.md R9). -/
abbrev Addr := BitVec 16

end Sys2Proof
end

