-- ==== Sys2Proof/Config.lean ====
section
/-!
DEFINITION. The launch parameters of spec 00_scope.md R10 and the free values the spec leaves unconstrained.
A parameter is a field of `Params`, which State holds unchanged; a free value is an opaque constant, so nothing
can be proved of what it is (log entries 2, 3, 4, 5, 13, 14).
-/

namespace Sys2Proof

/-- The 76 mnemonics of opcode_table.json. `LATE_I_SET` is a set of them (00_scope.md R10). -/
inductive Mnemonic
  | ADC | ALR | ANC | AND | ARR | ASL | BCC | BCS | BEQ | BIT | BMI | BNE | BPL | BRK | BVC | BVS | CLC | CLD
  | CLI | CLV | CMP | CPX | CPY | DCP | DEC | DEX | DEY | EOR | INC | INX | INY | ISB | JAM | JMP | JSR | LAS
  | LAX | LDA | LDX | LDY | LSR | LXA | NOP | ORA | PHA | PHP | PLA | PLP | RLA | ROL | ROR | RRA | RTI | RTS
  | SAX | SBC | SBX | SEC | SED | SEI | SHA | SHX | SHY | SLO | SRE | STA | STX | STY | TAS | TAX | TAY | TSX
  | TXA | TXS | TYA | XAA
  deriving DecidableEq, Repr

/-- `REGION`: the CPU-to-PPU clock ratio and the noise and DMC period tables (00_scope.md R10, 20_memory.md R132). -/
inductive Region | ntsc | pal
  deriving DecidableEq, Repr

/-- `BUS_MODE`: the console map, or the flat 64 KiB RAM of the test-vector interface (20_memory.md R145). -/
inductive BusMode | console | flat64k
  deriving DecidableEq, Repr

/-- `MMC1_BIT_ORDER` (63_mapper_and_ports.md R626). -/
inductive BitOrder | msbFirst | lsbFirst
  deriving DecidableEq, Repr

/-- `SPRITES`: the full algorithm or the stub of 61_ppu.md R505. -/
inductive SpriteMode | full | stub
  deriving DecidableEq, Repr

/-- The five bank-switching schemes (63_mapper_and_ports.md R625 to R632). -/
inductive Scheme | fixed | shiftRegister | lowerBankSelect | upperBankSelect | coarseBankSelect
  deriving DecidableEq, Repr

/-- The four sequencer offsets of one mode, in CPU cycles (62_apu.md R552). -/
structure FcOffsets where
  o1 : Nat
  o2 : Nat
  o3 : Nat
  o4 : Nat
  deriving DecidableEq, Repr

/-- The weights of a linear `MIXER`, one for each channel output, in units of 1/100000 (62_apu.md R606). -/
structure MixerWeights where
  pulse1 : Nat
  pulse2 : Nat
  triangle : Nat
  noise : Nat
  dmc : Nat
  deriving DecidableEq, Repr

/-- `MIXER`, a function of the five channel outputs: linear with named weights, or any other function, which is the
unconstrained `Config.mixer` (00_scope.md R10; DESIGN CHOICE, log entry 5). -/
inductive Mixer
  | linear (w : MixerWeights)
  | other
  deriving DecidableEq, Repr

/-- The named parameters of 00_scope.md R10 that are plain data. -/
structure Params where
  region : Region
  startPc : Option Addr
  busMode : BusMode
  extraUnofficial : Bool
  lateISet : List Mnemonic
  dmcStallCycles : Nat
  fcOffsets4 : FcOffsets
  fcOffsets5 : FcOffsets
  mmc1BitOrder : BitOrder
  mapperIds : List (Nat × Scheme)
  sprites : SpriteMode
  mixer : Mixer
  deriving DecidableEq, Repr

/-- The defaults of 00_scope.md R10. -/
def Params.default : Params where
  region := .ntsc
  startPc := none
  busMode := .console
  extraUnofficial := false
  lateISet := [.CLI, .SEI, .PLP]
  dmcStallCycles := 1
  fcOffsets4 := { o1 := 7456, o2 := 14912, o3 := 22370, o4 := 29828 }
  fcOffsets5 := { o1 := 7456, o2 := 14912, o3 := 22370, o4 := 37280 }
  mmc1BitOrder := .msbFirst
  mapperIds := [(0, .fixed), (1, .shiftRegister), (2, .lowerBankSelect), (180, .upperBankSelect),
    (7, .coarseBankSelect)]
  sprites := .full
  mixer := .linear { pulse1 := 752, pulse2 := 752, triangle := 851, noise := 494, dmc := 335 }

/-- The parameters of the conformance setup: the defaults with `START_PC` = 0xC000 (00_scope.md R10,
70_reset_and_hazards.md R683). -/
def Params.conformance : Params := { Params.default with startPc := some 0xC000#16 }

/-- The physical memories whose power-on contents are the parameter `INIT_MEMORY` (00_scope.md R10), and the page
arrays a load gives. -/
inductive MemKind | ram | exram | sram | flat | prg | chr | chrRam | vram | palette | oam
  deriving DecidableEq, Repr

/-- `INIT_MEMORY`, unconstrained: the byte a cell that nothing has written or loaded reads as (10_state.md R60,
92_eei_decisions.md D17; DESIGN CHOICE, log entry 2). -/
opaque Config.initMemory : MemKind → Nat → Byte

/-- `OPEN_BUS`, unconstrained: the byte of the n-th draw (20_memory.md R144; DESIGN CHOICE, log entry 3). -/
opaque Config.openBus : Nat → Byte

/-- `BUTTONS` where no host input is modelled: the button byte of the n-th latch (63_mapper_and_ports.md R640; DESIGN
CHOICE, log entry 4). -/
opaque Config.buttons : Nat → Byte

/-- `MIXER` where the launch names no linear one: the sample of the outputs of pulse 1, pulse 2, triangle, noise and
DMC, unconstrained (00_scope.md R10; 62_apu.md R606; DESIGN CHOICE, log entry 5). -/
opaque Config.mixer : (pulse1 pulse2 triangle noise dmc : Nat) → Rat

/-- The colour index of a pixel of the frame buffer that no dot has drawn, by scanline and column: the power-on
contents, unspecified (10_state.md R85; DESIGN CHOICE, log entry 14). -/
opaque Config.initPixel : (line x : Nat) → BitVec 6

/-- The byte `Peek` gives at an address whose read has a side effect or is open bus, for the log line of the given
cycle count (60_exceptions.md R448; DESIGN CHOICE, log entry 13). -/
opaque Config.peekDraw : Nat → Addr → Byte

end Sys2Proof
end

