-- ==== Sys2Proof/Syntax.lean ====
section
/-!
DEFINITION. The syntax: one constructor per row of spec/opcode_table.json, with the operand bytes that follow the
opcode (30_encoding.md R200, R202, R204): first the rows with operand bytes in the table's order, then the rows
without (Lean's compiler gives no tag above 244 to a constructor with arguments). A two-byte operand is the address
`hi:lo`. An undocumented opcode that shares its mnemonic and mode with another row carries its opcode in its name.
-/

namespace Sys2Proof

/-- The 256 instructions (30_encoding.md R204, R209). -/
inductive Instr
  /-- 0x01 ORA (zero page,X) (R305) -/
  | oraIzx (zp : Byte)
  /-- 0x03 *SLO (zero page,X) (R385) -/
  | sloIzx (zp : Byte)
  /-- 0x04 *NOP zero page (R389) -/
  | nopZp04 (zp : Byte)
  /-- 0x05 ORA zero page (R305) -/
  | oraZp (zp : Byte)
  /-- 0x06 ASL zero page (R330) -/
  | aslZp (zp : Byte)
  /-- 0x07 *SLO zero page (R385) -/
  | sloZp (zp : Byte)
  /-- 0x09 ORA immediate (R305) -/
  | oraImm (imm : Byte)
  /-- 0x0B *ANC immediate (R392) -/
  | ancImm0B (imm : Byte)
  /-- 0x0C *NOP absolute (R389) -/
  | nopAbs (addr : Addr)
  /-- 0x0D ORA absolute (R305) -/
  | oraAbs (addr : Addr)
  /-- 0x0E ASL absolute (R330) -/
  | aslAbs (addr : Addr)
  /-- 0x0F *SLO absolute (R385) -/
  | sloAbs (addr : Addr)
  /-- 0x10 BPL relative (R346) -/
  | bplRel (off : Byte)
  /-- 0x11 ORA (zero page),Y (R305) -/
  | oraIzy (zp : Byte)
  /-- 0x13 *SLO (zero page),Y (R385) -/
  | sloIzy (zp : Byte)
  /-- 0x14 *NOP zero page,X (R389) -/
  | nopZpx14 (zp : Byte)
  /-- 0x15 ORA zero page,X (R305) -/
  | oraZpx (zp : Byte)
  /-- 0x16 ASL zero page,X (R330) -/
  | aslZpx (zp : Byte)
  /-- 0x17 *SLO zero page,X (R385) -/
  | sloZpx (zp : Byte)
  /-- 0x19 ORA absolute,Y (R305) -/
  | oraAby (addr : Addr)
  /-- 0x1B *SLO absolute,Y (R385) -/
  | sloAby (addr : Addr)
  /-- 0x1C *NOP absolute,X (R389) -/
  | nopAbx1C (addr : Addr)
  /-- 0x1D ORA absolute,X (R305) -/
  | oraAbx (addr : Addr)
  /-- 0x1E ASL absolute,X (R330) -/
  | aslAbx (addr : Addr)
  /-- 0x1F *SLO absolute,X (R385) -/
  | sloAbx (addr : Addr)
  /-- 0x20 JSR absolute (R350) -/
  | jsrAbs (addr : Addr)
  /-- 0x21 AND (zero page,X) (R304) -/
  | andIzx (zp : Byte)
  /-- 0x23 *RLA (zero page,X) (R386) -/
  | rlaIzx (zp : Byte)
  /-- 0x24 BIT zero page (R310) -/
  | bitZp (zp : Byte)
  /-- 0x25 AND zero page (R304) -/
  | andZp (zp : Byte)
  /-- 0x26 ROL zero page (R332) -/
  | rolZp (zp : Byte)
  /-- 0x27 *RLA zero page (R386) -/
  | rlaZp (zp : Byte)
  /-- 0x29 AND immediate (R304) -/
  | andImm (imm : Byte)
  /-- 0x2B *ANC immediate (R392) -/
  | ancImm2B (imm : Byte)
  /-- 0x2C BIT absolute (R310) -/
  | bitAbs (addr : Addr)
  /-- 0x2D AND absolute (R304) -/
  | andAbs (addr : Addr)
  /-- 0x2E ROL absolute (R332) -/
  | rolAbs (addr : Addr)
  /-- 0x2F *RLA absolute (R386) -/
  | rlaAbs (addr : Addr)
  /-- 0x30 BMI relative (R345) -/
  | bmiRel (off : Byte)
  /-- 0x31 AND (zero page),Y (R304) -/
  | andIzy (zp : Byte)
  /-- 0x33 *RLA (zero page),Y (R386) -/
  | rlaIzy (zp : Byte)
  /-- 0x34 *NOP zero page,X (R389) -/
  | nopZpx34 (zp : Byte)
  /-- 0x35 AND zero page,X (R304) -/
  | andZpx (zp : Byte)
  /-- 0x36 ROL zero page,X (R332) -/
  | rolZpx (zp : Byte)
  /-- 0x37 *RLA zero page,X (R386) -/
  | rlaZpx (zp : Byte)
  /-- 0x39 AND absolute,Y (R304) -/
  | andAby (addr : Addr)
  /-- 0x3B *RLA absolute,Y (R386) -/
  | rlaAby (addr : Addr)
  /-- 0x3C *NOP absolute,X (R389) -/
  | nopAbx3C (addr : Addr)
  /-- 0x3D AND absolute,X (R304) -/
  | andAbx (addr : Addr)
  /-- 0x3E ROL absolute,X (R332) -/
  | rolAbx (addr : Addr)
  /-- 0x3F *RLA absolute,X (R386) -/
  | rlaAbx (addr : Addr)
  /-- 0x41 EOR (zero page,X) (R306) -/
  | eorIzx (zp : Byte)
  /-- 0x43 *SRE (zero page,X) (R387) -/
  | sreIzx (zp : Byte)
  /-- 0x44 *NOP zero page (R389) -/
  | nopZp44 (zp : Byte)
  /-- 0x45 EOR zero page (R306) -/
  | eorZp (zp : Byte)
  /-- 0x46 LSR zero page (R331) -/
  | lsrZp (zp : Byte)
  /-- 0x47 *SRE zero page (R387) -/
  | sreZp (zp : Byte)
  /-- 0x49 EOR immediate (R306) -/
  | eorImm (imm : Byte)
  /-- 0x4B *ALR immediate (R393) -/
  | alrImm (imm : Byte)
  /-- 0x4C JMP absolute (R349) -/
  | jmpAbs (addr : Addr)
  /-- 0x4D EOR absolute (R306) -/
  | eorAbs (addr : Addr)
  /-- 0x4E LSR absolute (R331) -/
  | lsrAbs (addr : Addr)
  /-- 0x4F *SRE absolute (R387) -/
  | sreAbs (addr : Addr)
  /-- 0x50 BVC relative (R347) -/
  | bvcRel (off : Byte)
  /-- 0x51 EOR (zero page),Y (R306) -/
  | eorIzy (zp : Byte)
  /-- 0x53 *SRE (zero page),Y (R387) -/
  | sreIzy (zp : Byte)
  /-- 0x54 *NOP zero page,X (R389) -/
  | nopZpx54 (zp : Byte)
  /-- 0x55 EOR zero page,X (R306) -/
  | eorZpx (zp : Byte)
  /-- 0x56 LSR zero page,X (R331) -/
  | lsrZpx (zp : Byte)
  /-- 0x57 *SRE zero page,X (R387) -/
  | sreZpx (zp : Byte)
  /-- 0x59 EOR absolute,Y (R306) -/
  | eorAby (addr : Addr)
  /-- 0x5B *SRE absolute,Y (R387) -/
  | sreAby (addr : Addr)
  /-- 0x5C *NOP absolute,X (R389) -/
  | nopAbx5C (addr : Addr)
  /-- 0x5D EOR absolute,X (R306) -/
  | eorAbx (addr : Addr)
  /-- 0x5E LSR absolute,X (R331) -/
  | lsrAbx (addr : Addr)
  /-- 0x5F *SRE absolute,X (R387) -/
  | sreAbx (addr : Addr)
  /-- 0x61 ADC (zero page,X) (R302) -/
  | adcIzx (zp : Byte)
  /-- 0x63 *RRA (zero page,X) (R388) -/
  | rraIzx (zp : Byte)
  /-- 0x64 *NOP zero page (R389) -/
  | nopZp64 (zp : Byte)
  /-- 0x65 ADC zero page (R302) -/
  | adcZp (zp : Byte)
  /-- 0x66 ROR zero page (R333) -/
  | rorZp (zp : Byte)
  /-- 0x67 *RRA zero page (R388) -/
  | rraZp (zp : Byte)
  /-- 0x69 ADC immediate (R302) -/
  | adcImm (imm : Byte)
  /-- 0x6B *ARR immediate (R394) -/
  | arrImm (imm : Byte)
  /-- 0x6C JMP indirect (R349) -/
  | jmpInd (addr : Addr)
  /-- 0x6D ADC absolute (R302) -/
  | adcAbs (addr : Addr)
  /-- 0x6E ROR absolute (R333) -/
  | rorAbs (addr : Addr)
  /-- 0x6F *RRA absolute (R388) -/
  | rraAbs (addr : Addr)
  /-- 0x70 BVS relative (R348) -/
  | bvsRel (off : Byte)
  /-- 0x71 ADC (zero page),Y (R302) -/
  | adcIzy (zp : Byte)
  /-- 0x73 *RRA (zero page),Y (R388) -/
  | rraIzy (zp : Byte)
  /-- 0x74 *NOP zero page,X (R389) -/
  | nopZpx74 (zp : Byte)
  /-- 0x75 ADC zero page,X (R302) -/
  | adcZpx (zp : Byte)
  /-- 0x76 ROR zero page,X (R333) -/
  | rorZpx (zp : Byte)
  /-- 0x77 *RRA zero page,X (R388) -/
  | rraZpx (zp : Byte)
  /-- 0x79 ADC absolute,Y (R302) -/
  | adcAby (addr : Addr)
  /-- 0x7B *RRA absolute,Y (R388) -/
  | rraAby (addr : Addr)
  /-- 0x7C *NOP absolute,X (R389) -/
  | nopAbx7C (addr : Addr)
  /-- 0x7D ADC absolute,X (R302) -/
  | adcAbx (addr : Addr)
  /-- 0x7E ROR absolute,X (R333) -/
  | rorAbx (addr : Addr)
  /-- 0x7F *RRA absolute,X (R388) -/
  | rraAbx (addr : Addr)
  /-- 0x80 *NOP immediate (R389) -/
  | nopImm80 (imm : Byte)
  /-- 0x81 STA (zero page,X) (R283) -/
  | staIzx (zp : Byte)
  /-- 0x82 *NOP immediate (R389) -/
  | nopImm82 (imm : Byte)
  /-- 0x83 *SAX (zero page,X) (R381) -/
  | saxIzx (zp : Byte)
  /-- 0x84 STY zero page (R285) -/
  | styZp (zp : Byte)
  /-- 0x85 STA zero page (R283) -/
  | staZp (zp : Byte)
  /-- 0x86 STX zero page (R284) -/
  | stxZp (zp : Byte)
  /-- 0x87 *SAX zero page (R381) -/
  | saxZp (zp : Byte)
  /-- 0x89 *NOP immediate (R389) -/
  | nopImm89 (imm : Byte)
  /-- 0x8B *XAA immediate (R397) -/
  | xaaImm (imm : Byte)
  /-- 0x8C STY absolute (R285) -/
  | styAbs (addr : Addr)
  /-- 0x8D STA absolute (R283) -/
  | staAbs (addr : Addr)
  /-- 0x8E STX absolute (R284) -/
  | stxAbs (addr : Addr)
  /-- 0x8F *SAX absolute (R381) -/
  | saxAbs (addr : Addr)
  /-- 0x90 BCC relative (R341) -/
  | bccRel (off : Byte)
  /-- 0x91 STA (zero page),Y (R283) -/
  | staIzy (zp : Byte)
  /-- 0x93 *SHA (zero page),Y (R399) -/
  | shaIzy (zp : Byte)
  /-- 0x94 STY zero page,X (R285) -/
  | styZpx (zp : Byte)
  /-- 0x95 STA zero page,X (R283) -/
  | staZpx (zp : Byte)
  /-- 0x96 STX zero page,Y (R284) -/
  | stxZpy (zp : Byte)
  /-- 0x97 *SAX zero page,Y (R381) -/
  | saxZpy (zp : Byte)
  /-- 0x99 STA absolute,Y (R283) -/
  | staAby (addr : Addr)
  /-- 0x9B *TAS absolute,Y (R402) -/
  | tasAby (addr : Addr)
  /-- 0x9C *SHY absolute,X (R401) -/
  | shyAbx (addr : Addr)
  /-- 0x9D STA absolute,X (R283) -/
  | staAbx (addr : Addr)
  /-- 0x9E *SHX absolute,Y (R400) -/
  | shxAby (addr : Addr)
  /-- 0x9F *SHA absolute,Y (R399) -/
  | shaAby (addr : Addr)
  /-- 0xA0 LDY immediate (R282) -/
  | ldyImm (imm : Byte)
  /-- 0xA1 LDA (zero page,X) (R280) -/
  | ldaIzx (zp : Byte)
  /-- 0xA2 LDX immediate (R281) -/
  | ldxImm (imm : Byte)
  /-- 0xA3 *LAX (zero page,X) (R380) -/
  | laxIzx (zp : Byte)
  /-- 0xA4 LDY zero page (R282) -/
  | ldyZp (zp : Byte)
  /-- 0xA5 LDA zero page (R280) -/
  | ldaZp (zp : Byte)
  /-- 0xA6 LDX zero page (R281) -/
  | ldxZp (zp : Byte)
  /-- 0xA7 *LAX zero page (R380) -/
  | laxZp (zp : Byte)
  /-- 0xA9 LDA immediate (R280) -/
  | ldaImm (imm : Byte)
  /-- 0xAB *LXA immediate (R398) -/
  | lxaImm (imm : Byte)
  /-- 0xAC LDY absolute (R282) -/
  | ldyAbs (addr : Addr)
  /-- 0xAD LDA absolute (R280) -/
  | ldaAbs (addr : Addr)
  /-- 0xAE LDX absolute (R281) -/
  | ldxAbs (addr : Addr)
  /-- 0xAF *LAX absolute (R380) -/
  | laxAbs (addr : Addr)
  /-- 0xB0 BCS relative (R342) -/
  | bcsRel (off : Byte)
  /-- 0xB1 LDA (zero page),Y (R280) -/
  | ldaIzy (zp : Byte)
  /-- 0xB3 *LAX (zero page),Y (R380) -/
  | laxIzy (zp : Byte)
  /-- 0xB4 LDY zero page,X (R282) -/
  | ldyZpx (zp : Byte)
  /-- 0xB5 LDA zero page,X (R280) -/
  | ldaZpx (zp : Byte)
  /-- 0xB6 LDX zero page,Y (R281) -/
  | ldxZpy (zp : Byte)
  /-- 0xB7 *LAX zero page,Y (R380) -/
  | laxZpy (zp : Byte)
  /-- 0xB9 LDA absolute,Y (R280) -/
  | ldaAby (addr : Addr)
  /-- 0xBB *LAS absolute,Y (R396) -/
  | lasAby (addr : Addr)
  /-- 0xBC LDY absolute,X (R282) -/
  | ldyAbx (addr : Addr)
  /-- 0xBD LDA absolute,X (R280) -/
  | ldaAbx (addr : Addr)
  /-- 0xBE LDX absolute,Y (R281) -/
  | ldxAby (addr : Addr)
  /-- 0xBF *LAX absolute,Y (R380) -/
  | laxAby (addr : Addr)
  /-- 0xC0 CPY immediate (R309) -/
  | cpyImm (imm : Byte)
  /-- 0xC1 CMP (zero page,X) (R307) -/
  | cmpIzx (zp : Byte)
  /-- 0xC2 *NOP immediate (R389) -/
  | nopImmC2 (imm : Byte)
  /-- 0xC3 *DCP (zero page,X) (R383) -/
  | dcpIzx (zp : Byte)
  /-- 0xC4 CPY zero page (R309) -/
  | cpyZp (zp : Byte)
  /-- 0xC5 CMP zero page (R307) -/
  | cmpZp (zp : Byte)
  /-- 0xC6 DEC zero page (R312) -/
  | decZp (zp : Byte)
  /-- 0xC7 *DCP zero page (R383) -/
  | dcpZp (zp : Byte)
  /-- 0xC9 CMP immediate (R307) -/
  | cmpImm (imm : Byte)
  /-- 0xCB *SBX immediate (R395) -/
  | sbxImm (imm : Byte)
  /-- 0xCC CPY absolute (R309) -/
  | cpyAbs (addr : Addr)
  /-- 0xCD CMP absolute (R307) -/
  | cmpAbs (addr : Addr)
  /-- 0xCE DEC absolute (R312) -/
  | decAbs (addr : Addr)
  /-- 0xCF *DCP absolute (R383) -/
  | dcpAbs (addr : Addr)
  /-- 0xD0 BNE relative (R344) -/
  | bneRel (off : Byte)
  /-- 0xD1 CMP (zero page),Y (R307) -/
  | cmpIzy (zp : Byte)
  /-- 0xD3 *DCP (zero page),Y (R383) -/
  | dcpIzy (zp : Byte)
  /-- 0xD4 *NOP zero page,X (R389) -/
  | nopZpxD4 (zp : Byte)
  /-- 0xD5 CMP zero page,X (R307) -/
  | cmpZpx (zp : Byte)
  /-- 0xD6 DEC zero page,X (R312) -/
  | decZpx (zp : Byte)
  /-- 0xD7 *DCP zero page,X (R383) -/
  | dcpZpx (zp : Byte)
  /-- 0xD9 CMP absolute,Y (R307) -/
  | cmpAby (addr : Addr)
  /-- 0xDB *DCP absolute,Y (R383) -/
  | dcpAby (addr : Addr)
  /-- 0xDC *NOP absolute,X (R389) -/
  | nopAbxDC (addr : Addr)
  /-- 0xDD CMP absolute,X (R307) -/
  | cmpAbx (addr : Addr)
  /-- 0xDE DEC absolute,X (R312) -/
  | decAbx (addr : Addr)
  /-- 0xDF *DCP absolute,X (R383) -/
  | dcpAbx (addr : Addr)
  /-- 0xE0 CPX immediate (R308) -/
  | cpxImm (imm : Byte)
  /-- 0xE1 SBC (zero page,X) (R303) -/
  | sbcIzx (zp : Byte)
  /-- 0xE2 *NOP immediate (R389) -/
  | nopImmE2 (imm : Byte)
  /-- 0xE3 *ISB (zero page,X) (R384) -/
  | isbIzx (zp : Byte)
  /-- 0xE4 CPX zero page (R308) -/
  | cpxZp (zp : Byte)
  /-- 0xE5 SBC zero page (R303) -/
  | sbcZp (zp : Byte)
  /-- 0xE6 INC zero page (R311) -/
  | incZp (zp : Byte)
  /-- 0xE7 *ISB zero page (R384) -/
  | isbZp (zp : Byte)
  /-- 0xE9 SBC immediate (R303) -/
  | sbcImm (imm : Byte)
  /-- 0xEB *SBC immediate (R382) -/
  | sbcImmEB (imm : Byte)
  /-- 0xEC CPX absolute (R308) -/
  | cpxAbs (addr : Addr)
  /-- 0xED SBC absolute (R303) -/
  | sbcAbs (addr : Addr)
  /-- 0xEE INC absolute (R311) -/
  | incAbs (addr : Addr)
  /-- 0xEF *ISB absolute (R384) -/
  | isbAbs (addr : Addr)
  /-- 0xF0 BEQ relative (R343) -/
  | beqRel (off : Byte)
  /-- 0xF1 SBC (zero page),Y (R303) -/
  | sbcIzy (zp : Byte)
  /-- 0xF3 *ISB (zero page),Y (R384) -/
  | isbIzy (zp : Byte)
  /-- 0xF4 *NOP zero page,X (R389) -/
  | nopZpxF4 (zp : Byte)
  /-- 0xF5 SBC zero page,X (R303) -/
  | sbcZpx (zp : Byte)
  /-- 0xF6 INC zero page,X (R311) -/
  | incZpx (zp : Byte)
  /-- 0xF7 *ISB zero page,X (R384) -/
  | isbZpx (zp : Byte)
  /-- 0xF9 SBC absolute,Y (R303) -/
  | sbcAby (addr : Addr)
  /-- 0xFB *ISB absolute,Y (R384) -/
  | isbAby (addr : Addr)
  /-- 0xFC *NOP absolute,X (R389) -/
  | nopAbxFC (addr : Addr)
  /-- 0xFD SBC absolute,X (R303) -/
  | sbcAbx (addr : Addr)
  /-- 0xFE INC absolute,X (R311) -/
  | incAbx (addr : Addr)
  /-- 0xFF *ISB absolute,X (R384) -/
  | isbAbx (addr : Addr)
  /-- 0x00 BRK implied (R353) -/
  | brk
  /-- 0x02 *JAM implied (R390) -/
  | jam02
  /-- 0x08 PHP implied (R361) -/
  | php
  /-- 0x0A ASL accumulator (R330) -/
  | aslAcc
  /-- 0x12 *JAM implied (R390) -/
  | jam12
  /-- 0x18 CLC implied (R364) -/
  | clc
  /-- 0x1A *NOP implied (R389) -/
  | nop1A
  /-- 0x22 *JAM implied (R390) -/
  | jam22
  /-- 0x28 PLP implied (R363) -/
  | plp
  /-- 0x2A ROL accumulator (R332) -/
  | rolAcc
  /-- 0x32 *JAM implied (R390) -/
  | jam32
  /-- 0x38 SEC implied (R365) -/
  | sec
  /-- 0x3A *NOP implied (R389) -/
  | nop3A
  /-- 0x40 RTI implied (R352) -/
  | rti
  /-- 0x42 *JAM implied (R390) -/
  | jam42
  /-- 0x48 PHA implied (R360) -/
  | pha
  /-- 0x4A LSR accumulator (R331) -/
  | lsrAcc
  /-- 0x52 *JAM implied (R390) -/
  | jam52
  /-- 0x58 CLI implied (R366) -/
  | cli
  /-- 0x5A *NOP implied (R389) -/
  | nop5A
  /-- 0x60 RTS implied (R351) -/
  | rts
  /-- 0x62 *JAM implied (R390) -/
  | jam62
  /-- 0x68 PLA implied (R362) -/
  | pla
  /-- 0x6A ROR accumulator (R333) -/
  | rorAcc
  /-- 0x72 *JAM implied (R390) -/
  | jam72
  /-- 0x78 SEI implied (R367) -/
  | sei
  /-- 0x7A *NOP implied (R389) -/
  | nop7A
  /-- 0x88 DEY implied (R316) -/
  | dey
  /-- 0x8A TXA implied (R288) -/
  | txa
  /-- 0x92 *JAM implied (R390) -/
  | jam92
  /-- 0x98 TYA implied (R289) -/
  | tya
  /-- 0x9A TXS implied (R291) -/
  | txs
  /-- 0xA8 TAY implied (R287) -/
  | tay
  /-- 0xAA TAX implied (R286) -/
  | tax
  /-- 0xB2 *JAM implied (R390) -/
  | jamB2
  /-- 0xB8 CLV implied (R370) -/
  | clv
  /-- 0xBA TSX implied (R290) -/
  | tsx
  /-- 0xC8 INY implied (R314) -/
  | iny
  /-- 0xCA DEX implied (R315) -/
  | dex
  /-- 0xD2 *JAM implied (R390) -/
  | jamD2
  /-- 0xD8 CLD implied (R368) -/
  | cld
  /-- 0xDA *NOP implied (R389) -/
  | nopDA
  /-- 0xE8 INX implied (R313) -/
  | inx
  /-- 0xEA NOP implied (R354) -/
  | nop
  /-- 0xF2 *JAM implied (R390) -/
  | jamF2
  /-- 0xF8 SED implied (R369) -/
  | sed
  /-- 0xFA *NOP implied (R389) -/
  | nopFA
  deriving DecidableEq, Repr

end Sys2Proof
end

