-- ==== Sys2Proof/WellFormed.lean ====
section
/-!
DEFINITION. What is well formed: instructions, the byte strings a decoder accepts, the launch parameters.
-/

namespace Sys2Proof

/-- Every instruction is well formed: an opcode value selects the constructor, and each operand has exactly the
width its encoding gives it (30_encoding.md R200, R202, R209: every byte value decodes). -/
def Instr.wellFormed (_ : Instr) : Bool := true

/-- The offsets of one sequencer mode rise strictly from a positive first one (62_apu.md R552). -/
def FcOffsets.wellFormed (o : FcOffsets) : Bool :=
  decide (0 < o.o1) && decide (o.o1 < o.o2) && decide (o.o2 < o.o3) && decide (o.o3 < o.o4)

/-- No mapper id names two schemes (`MAPPER_IDS` is a map, 00_scope.md R10). -/
def mapperIdsDistinct : List (Nat × Scheme) → Bool
  | [] => true
  | p :: l => !(l.any fun q => q.1 == p.1) && mapperIdsDistinct l

/-- The launch parameters are usable: both offset lists rise, and the mapper ids are a map of header ids, one byte each
(00_scope.md R10; 62_apu.md R552). -/
def Params.wellFormed (c : Params) : Bool :=
  c.fcOffsets4.wellFormed && c.fcOffsets5.wellFormed && mapperIdsDistinct c.mapperIds
    && c.mapperIds.all (fun p => decide (p.1 < 256))

end Sys2Proof
end

