-- ==== Sys2Proof/Decode.lean ====
section
/-!
DEFINITION. The byte-order and bit-field helpers, the decoder (total on any bytes, rejecting by name), the encoder,
and the columns of spec/opcode_table.json: opcode, mnemonic, official, base cycles, penalty.
-/

namespace Sys2Proof

/-- `hi(w)` = w[15:8] (00_scope.md R12). -/
def hiByte (w : Addr) : Byte := w.extractLsb' 8 8

/-- `lo(w)` = w[7:0] (00_scope.md R12). -/
def loByte (w : Addr) : Byte := w.extractLsb' 0 8

/-- `hi:lo` = hi * 256 + lo (30_encoding.md R202, 20_memory.md R150). -/
def addrOf (lo hi : Byte) : Addr := hi ++ lo

/-- `zext_16(v)` (00_scope.md R12). -/
def zext16 (v : Byte) : Addr := v.setWidth 16

/-- `sext_8(v)` as a 16-bit displacement: -128 to 127 (00_scope.md R12, 30_encoding.md R202). -/
def sext16 (v : Byte) : Addr := v.signExtend 16

/-- Why a byte string is no instruction. Only a string that is too short is refused: every opcode value decodes
(30_encoding.md R209). -/
inductive DecodeError
  /-- there is no opcode byte -/
  | noBytes
  /-- the opcode's operand bytes are missing -/
  | missingOperand (opcode : Byte)
  deriving DecidableEq, Repr

/-- A cell of the opcode map: the instruction an opcode selects, awaiting its operand bytes (30_encoding.md R200). -/
inductive OpcodeCell
  | f1 (i : Instr)
  | f2 (i : Byte → Instr)
  | f3 (i : Addr → Instr)

/-- The number of operand bytes of the cell's mode (30_encoding.md R203). -/
def OpcodeCell.operandBytes : OpcodeCell → Nat
  | .f1 _ => 0
  | .f2 _ => 1
  | .f3 _ => 2

/-- The instruction of a cell with the operand bytes `b1` (first) and `b2`; a cell with fewer operands ignores the
rest. -/
def OpcodeCell.instr : OpcodeCell → Byte → Byte → Instr
  | .f1 i, _, _ => i
  | .f2 i, b1, _ => i b1
  | .f3 i, b1, b2 => i (addrOf b1 b2)

/-- Row 0x of the opcode map (30_encoding.md R204), by op[3:0]. -/
def opcodeRow0 : Nat → OpcodeCell
  | 0 => .f1 .brk
  | 1 => .f2 .oraIzx
  | 2 => .f1 .jam02
  | 3 => .f2 .sloIzx
  | 4 => .f2 .nopZp04
  | 5 => .f2 .oraZp
  | 6 => .f2 .aslZp
  | 7 => .f2 .sloZp
  | 8 => .f1 .php
  | 9 => .f2 .oraImm
  | 10 => .f1 .aslAcc
  | 11 => .f2 .ancImm0B
  | 12 => .f3 .nopAbs
  | 13 => .f3 .oraAbs
  | 14 => .f3 .aslAbs
  | _ => .f3 .sloAbs

/-- Row 1x of the opcode map (30_encoding.md R204), by op[3:0]. -/
def opcodeRow1 : Nat → OpcodeCell
  | 0 => .f2 .bplRel
  | 1 => .f2 .oraIzy
  | 2 => .f1 .jam12
  | 3 => .f2 .sloIzy
  | 4 => .f2 .nopZpx14
  | 5 => .f2 .oraZpx
  | 6 => .f2 .aslZpx
  | 7 => .f2 .sloZpx
  | 8 => .f1 .clc
  | 9 => .f3 .oraAby
  | 10 => .f1 .nop1A
  | 11 => .f3 .sloAby
  | 12 => .f3 .nopAbx1C
  | 13 => .f3 .oraAbx
  | 14 => .f3 .aslAbx
  | _ => .f3 .sloAbx

/-- Row 2x of the opcode map (30_encoding.md R204), by op[3:0]. -/
def opcodeRow2 : Nat → OpcodeCell
  | 0 => .f3 .jsrAbs
  | 1 => .f2 .andIzx
  | 2 => .f1 .jam22
  | 3 => .f2 .rlaIzx
  | 4 => .f2 .bitZp
  | 5 => .f2 .andZp
  | 6 => .f2 .rolZp
  | 7 => .f2 .rlaZp
  | 8 => .f1 .plp
  | 9 => .f2 .andImm
  | 10 => .f1 .rolAcc
  | 11 => .f2 .ancImm2B
  | 12 => .f3 .bitAbs
  | 13 => .f3 .andAbs
  | 14 => .f3 .rolAbs
  | _ => .f3 .rlaAbs

/-- Row 3x of the opcode map (30_encoding.md R204), by op[3:0]. -/
def opcodeRow3 : Nat → OpcodeCell
  | 0 => .f2 .bmiRel
  | 1 => .f2 .andIzy
  | 2 => .f1 .jam32
  | 3 => .f2 .rlaIzy
  | 4 => .f2 .nopZpx34
  | 5 => .f2 .andZpx
  | 6 => .f2 .rolZpx
  | 7 => .f2 .rlaZpx
  | 8 => .f1 .sec
  | 9 => .f3 .andAby
  | 10 => .f1 .nop3A
  | 11 => .f3 .rlaAby
  | 12 => .f3 .nopAbx3C
  | 13 => .f3 .andAbx
  | 14 => .f3 .rolAbx
  | _ => .f3 .rlaAbx

/-- Row 4x of the opcode map (30_encoding.md R204), by op[3:0]. -/
def opcodeRow4 : Nat → OpcodeCell
  | 0 => .f1 .rti
  | 1 => .f2 .eorIzx
  | 2 => .f1 .jam42
  | 3 => .f2 .sreIzx
  | 4 => .f2 .nopZp44
  | 5 => .f2 .eorZp
  | 6 => .f2 .lsrZp
  | 7 => .f2 .sreZp
  | 8 => .f1 .pha
  | 9 => .f2 .eorImm
  | 10 => .f1 .lsrAcc
  | 11 => .f2 .alrImm
  | 12 => .f3 .jmpAbs
  | 13 => .f3 .eorAbs
  | 14 => .f3 .lsrAbs
  | _ => .f3 .sreAbs

/-- Row 5x of the opcode map (30_encoding.md R204), by op[3:0]. -/
def opcodeRow5 : Nat → OpcodeCell
  | 0 => .f2 .bvcRel
  | 1 => .f2 .eorIzy
  | 2 => .f1 .jam52
  | 3 => .f2 .sreIzy
  | 4 => .f2 .nopZpx54
  | 5 => .f2 .eorZpx
  | 6 => .f2 .lsrZpx
  | 7 => .f2 .sreZpx
  | 8 => .f1 .cli
  | 9 => .f3 .eorAby
  | 10 => .f1 .nop5A
  | 11 => .f3 .sreAby
  | 12 => .f3 .nopAbx5C
  | 13 => .f3 .eorAbx
  | 14 => .f3 .lsrAbx
  | _ => .f3 .sreAbx

/-- Row 6x of the opcode map (30_encoding.md R204), by op[3:0]. -/
def opcodeRow6 : Nat → OpcodeCell
  | 0 => .f1 .rts
  | 1 => .f2 .adcIzx
  | 2 => .f1 .jam62
  | 3 => .f2 .rraIzx
  | 4 => .f2 .nopZp64
  | 5 => .f2 .adcZp
  | 6 => .f2 .rorZp
  | 7 => .f2 .rraZp
  | 8 => .f1 .pla
  | 9 => .f2 .adcImm
  | 10 => .f1 .rorAcc
  | 11 => .f2 .arrImm
  | 12 => .f3 .jmpInd
  | 13 => .f3 .adcAbs
  | 14 => .f3 .rorAbs
  | _ => .f3 .rraAbs

/-- Row 7x of the opcode map (30_encoding.md R204), by op[3:0]. -/
def opcodeRow7 : Nat → OpcodeCell
  | 0 => .f2 .bvsRel
  | 1 => .f2 .adcIzy
  | 2 => .f1 .jam72
  | 3 => .f2 .rraIzy
  | 4 => .f2 .nopZpx74
  | 5 => .f2 .adcZpx
  | 6 => .f2 .rorZpx
  | 7 => .f2 .rraZpx
  | 8 => .f1 .sei
  | 9 => .f3 .adcAby
  | 10 => .f1 .nop7A
  | 11 => .f3 .rraAby
  | 12 => .f3 .nopAbx7C
  | 13 => .f3 .adcAbx
  | 14 => .f3 .rorAbx
  | _ => .f3 .rraAbx

/-- Row 8x of the opcode map (30_encoding.md R204), by op[3:0]. -/
def opcodeRow8 : Nat → OpcodeCell
  | 0 => .f2 .nopImm80
  | 1 => .f2 .staIzx
  | 2 => .f2 .nopImm82
  | 3 => .f2 .saxIzx
  | 4 => .f2 .styZp
  | 5 => .f2 .staZp
  | 6 => .f2 .stxZp
  | 7 => .f2 .saxZp
  | 8 => .f1 .dey
  | 9 => .f2 .nopImm89
  | 10 => .f1 .txa
  | 11 => .f2 .xaaImm
  | 12 => .f3 .styAbs
  | 13 => .f3 .staAbs
  | 14 => .f3 .stxAbs
  | _ => .f3 .saxAbs

/-- Row 9x of the opcode map (30_encoding.md R204), by op[3:0]. -/
def opcodeRow9 : Nat → OpcodeCell
  | 0 => .f2 .bccRel
  | 1 => .f2 .staIzy
  | 2 => .f1 .jam92
  | 3 => .f2 .shaIzy
  | 4 => .f2 .styZpx
  | 5 => .f2 .staZpx
  | 6 => .f2 .stxZpy
  | 7 => .f2 .saxZpy
  | 8 => .f1 .tya
  | 9 => .f3 .staAby
  | 10 => .f1 .txs
  | 11 => .f3 .tasAby
  | 12 => .f3 .shyAbx
  | 13 => .f3 .staAbx
  | 14 => .f3 .shxAby
  | _ => .f3 .shaAby

/-- Row Ax of the opcode map (30_encoding.md R204), by op[3:0]. -/
def opcodeRowA : Nat → OpcodeCell
  | 0 => .f2 .ldyImm
  | 1 => .f2 .ldaIzx
  | 2 => .f2 .ldxImm
  | 3 => .f2 .laxIzx
  | 4 => .f2 .ldyZp
  | 5 => .f2 .ldaZp
  | 6 => .f2 .ldxZp
  | 7 => .f2 .laxZp
  | 8 => .f1 .tay
  | 9 => .f2 .ldaImm
  | 10 => .f1 .tax
  | 11 => .f2 .lxaImm
  | 12 => .f3 .ldyAbs
  | 13 => .f3 .ldaAbs
  | 14 => .f3 .ldxAbs
  | _ => .f3 .laxAbs

/-- Row Bx of the opcode map (30_encoding.md R204), by op[3:0]. -/
def opcodeRowB : Nat → OpcodeCell
  | 0 => .f2 .bcsRel
  | 1 => .f2 .ldaIzy
  | 2 => .f1 .jamB2
  | 3 => .f2 .laxIzy
  | 4 => .f2 .ldyZpx
  | 5 => .f2 .ldaZpx
  | 6 => .f2 .ldxZpy
  | 7 => .f2 .laxZpy
  | 8 => .f1 .clv
  | 9 => .f3 .ldaAby
  | 10 => .f1 .tsx
  | 11 => .f3 .lasAby
  | 12 => .f3 .ldyAbx
  | 13 => .f3 .ldaAbx
  | 14 => .f3 .ldxAby
  | _ => .f3 .laxAby

/-- Row Cx of the opcode map (30_encoding.md R204), by op[3:0]. -/
def opcodeRowC : Nat → OpcodeCell
  | 0 => .f2 .cpyImm
  | 1 => .f2 .cmpIzx
  | 2 => .f2 .nopImmC2
  | 3 => .f2 .dcpIzx
  | 4 => .f2 .cpyZp
  | 5 => .f2 .cmpZp
  | 6 => .f2 .decZp
  | 7 => .f2 .dcpZp
  | 8 => .f1 .iny
  | 9 => .f2 .cmpImm
  | 10 => .f1 .dex
  | 11 => .f2 .sbxImm
  | 12 => .f3 .cpyAbs
  | 13 => .f3 .cmpAbs
  | 14 => .f3 .decAbs
  | _ => .f3 .dcpAbs

/-- Row Dx of the opcode map (30_encoding.md R204), by op[3:0]. -/
def opcodeRowD : Nat → OpcodeCell
  | 0 => .f2 .bneRel
  | 1 => .f2 .cmpIzy
  | 2 => .f1 .jamD2
  | 3 => .f2 .dcpIzy
  | 4 => .f2 .nopZpxD4
  | 5 => .f2 .cmpZpx
  | 6 => .f2 .decZpx
  | 7 => .f2 .dcpZpx
  | 8 => .f1 .cld
  | 9 => .f3 .cmpAby
  | 10 => .f1 .nopDA
  | 11 => .f3 .dcpAby
  | 12 => .f3 .nopAbxDC
  | 13 => .f3 .cmpAbx
  | 14 => .f3 .decAbx
  | _ => .f3 .dcpAbx

/-- Row Ex of the opcode map (30_encoding.md R204), by op[3:0]. -/
def opcodeRowE : Nat → OpcodeCell
  | 0 => .f2 .cpxImm
  | 1 => .f2 .sbcIzx
  | 2 => .f2 .nopImmE2
  | 3 => .f2 .isbIzx
  | 4 => .f2 .cpxZp
  | 5 => .f2 .sbcZp
  | 6 => .f2 .incZp
  | 7 => .f2 .isbZp
  | 8 => .f1 .inx
  | 9 => .f2 .sbcImm
  | 10 => .f1 .nop
  | 11 => .f2 .sbcImmEB
  | 12 => .f3 .cpxAbs
  | 13 => .f3 .sbcAbs
  | 14 => .f3 .incAbs
  | _ => .f3 .isbAbs

/-- Row Fx of the opcode map (30_encoding.md R204), by op[3:0]. -/
def opcodeRowF : Nat → OpcodeCell
  | 0 => .f2 .beqRel
  | 1 => .f2 .sbcIzy
  | 2 => .f1 .jamF2
  | 3 => .f2 .isbIzy
  | 4 => .f2 .nopZpxF4
  | 5 => .f2 .sbcZpx
  | 6 => .f2 .incZpx
  | 7 => .f2 .isbZpx
  | 8 => .f1 .sed
  | 9 => .f3 .sbcAby
  | 10 => .f1 .nopFA
  | 11 => .f3 .isbAby
  | 12 => .f3 .nopAbxFC
  | 13 => .f3 .sbcAbx
  | 14 => .f3 .incAbx
  | _ => .f3 .isbAbx

/-- The opcode map: row op[7:4], column op[3:0] (30_encoding.md R204). Total on every byte (R209). -/
def opcodeCell (op : Byte) : OpcodeCell :=
  match op.toNat / 16 with
  | 0 => opcodeRow0 (op.toNat % 16)
  | 1 => opcodeRow1 (op.toNat % 16)
  | 2 => opcodeRow2 (op.toNat % 16)
  | 3 => opcodeRow3 (op.toNat % 16)
  | 4 => opcodeRow4 (op.toNat % 16)
  | 5 => opcodeRow5 (op.toNat % 16)
  | 6 => opcodeRow6 (op.toNat % 16)
  | 7 => opcodeRow7 (op.toNat % 16)
  | 8 => opcodeRow8 (op.toNat % 16)
  | 9 => opcodeRow9 (op.toNat % 16)
  | 10 => opcodeRowA (op.toNat % 16)
  | 11 => opcodeRowB (op.toNat % 16)
  | 12 => opcodeRowC (op.toNat % 16)
  | 13 => opcodeRowD (op.toNat % 16)
  | 14 => opcodeRowE (op.toNat % 16)
  | _ => opcodeRowF (op.toNat % 16)

/-- Decode the instruction at the head of a byte string, and give the rest of the string. -/
def decode : List Byte → Except DecodeError (Instr × List Byte)
  | [] => .error .noBytes
  | op :: bytes =>
    match opcodeCell op, bytes with
    | .f1 i, rest => .ok (i, rest)
    | .f2 i, b1 :: rest => .ok (i b1, rest)
    | .f3 i, lo :: hi :: rest => .ok (i (addrOf lo hi), rest)
    | .f2 _, [] => .error (.missingOperand op)
    | .f3 _, [] => .error (.missingOperand op)
    | .f3 _, [_] => .error (.missingOperand op)

/-- The opcode byte (opcode_table.json, `match`). -/
def Instr.opcode : Instr → Byte
  | .brk => 0x00#8
  | .oraIzx _ => 0x01#8
  | .jam02 => 0x02#8
  | .sloIzx _ => 0x03#8
  | .nopZp04 _ => 0x04#8
  | .oraZp _ => 0x05#8
  | .aslZp _ => 0x06#8
  | .sloZp _ => 0x07#8
  | .php => 0x08#8
  | .oraImm _ => 0x09#8
  | .aslAcc => 0x0A#8
  | .ancImm0B _ => 0x0B#8
  | .nopAbs _ => 0x0C#8
  | .oraAbs _ => 0x0D#8
  | .aslAbs _ => 0x0E#8
  | .sloAbs _ => 0x0F#8
  | .bplRel _ => 0x10#8
  | .oraIzy _ => 0x11#8
  | .jam12 => 0x12#8
  | .sloIzy _ => 0x13#8
  | .nopZpx14 _ => 0x14#8
  | .oraZpx _ => 0x15#8
  | .aslZpx _ => 0x16#8
  | .sloZpx _ => 0x17#8
  | .clc => 0x18#8
  | .oraAby _ => 0x19#8
  | .nop1A => 0x1A#8
  | .sloAby _ => 0x1B#8
  | .nopAbx1C _ => 0x1C#8
  | .oraAbx _ => 0x1D#8
  | .aslAbx _ => 0x1E#8
  | .sloAbx _ => 0x1F#8
  | .jsrAbs _ => 0x20#8
  | .andIzx _ => 0x21#8
  | .jam22 => 0x22#8
  | .rlaIzx _ => 0x23#8
  | .bitZp _ => 0x24#8
  | .andZp _ => 0x25#8
  | .rolZp _ => 0x26#8
  | .rlaZp _ => 0x27#8
  | .plp => 0x28#8
  | .andImm _ => 0x29#8
  | .rolAcc => 0x2A#8
  | .ancImm2B _ => 0x2B#8
  | .bitAbs _ => 0x2C#8
  | .andAbs _ => 0x2D#8
  | .rolAbs _ => 0x2E#8
  | .rlaAbs _ => 0x2F#8
  | .bmiRel _ => 0x30#8
  | .andIzy _ => 0x31#8
  | .jam32 => 0x32#8
  | .rlaIzy _ => 0x33#8
  | .nopZpx34 _ => 0x34#8
  | .andZpx _ => 0x35#8
  | .rolZpx _ => 0x36#8
  | .rlaZpx _ => 0x37#8
  | .sec => 0x38#8
  | .andAby _ => 0x39#8
  | .nop3A => 0x3A#8
  | .rlaAby _ => 0x3B#8
  | .nopAbx3C _ => 0x3C#8
  | .andAbx _ => 0x3D#8
  | .rolAbx _ => 0x3E#8
  | .rlaAbx _ => 0x3F#8
  | .rti => 0x40#8
  | .eorIzx _ => 0x41#8
  | .jam42 => 0x42#8
  | .sreIzx _ => 0x43#8
  | .nopZp44 _ => 0x44#8
  | .eorZp _ => 0x45#8
  | .lsrZp _ => 0x46#8
  | .sreZp _ => 0x47#8
  | .pha => 0x48#8
  | .eorImm _ => 0x49#8
  | .lsrAcc => 0x4A#8
  | .alrImm _ => 0x4B#8
  | .jmpAbs _ => 0x4C#8
  | .eorAbs _ => 0x4D#8
  | .lsrAbs _ => 0x4E#8
  | .sreAbs _ => 0x4F#8
  | .bvcRel _ => 0x50#8
  | .eorIzy _ => 0x51#8
  | .jam52 => 0x52#8
  | .sreIzy _ => 0x53#8
  | .nopZpx54 _ => 0x54#8
  | .eorZpx _ => 0x55#8
  | .lsrZpx _ => 0x56#8
  | .sreZpx _ => 0x57#8
  | .cli => 0x58#8
  | .eorAby _ => 0x59#8
  | .nop5A => 0x5A#8
  | .sreAby _ => 0x5B#8
  | .nopAbx5C _ => 0x5C#8
  | .eorAbx _ => 0x5D#8
  | .lsrAbx _ => 0x5E#8
  | .sreAbx _ => 0x5F#8
  | .rts => 0x60#8
  | .adcIzx _ => 0x61#8
  | .jam62 => 0x62#8
  | .rraIzx _ => 0x63#8
  | .nopZp64 _ => 0x64#8
  | .adcZp _ => 0x65#8
  | .rorZp _ => 0x66#8
  | .rraZp _ => 0x67#8
  | .pla => 0x68#8
  | .adcImm _ => 0x69#8
  | .rorAcc => 0x6A#8
  | .arrImm _ => 0x6B#8
  | .jmpInd _ => 0x6C#8
  | .adcAbs _ => 0x6D#8
  | .rorAbs _ => 0x6E#8
  | .rraAbs _ => 0x6F#8
  | .bvsRel _ => 0x70#8
  | .adcIzy _ => 0x71#8
  | .jam72 => 0x72#8
  | .rraIzy _ => 0x73#8
  | .nopZpx74 _ => 0x74#8
  | .adcZpx _ => 0x75#8
  | .rorZpx _ => 0x76#8
  | .rraZpx _ => 0x77#8
  | .sei => 0x78#8
  | .adcAby _ => 0x79#8
  | .nop7A => 0x7A#8
  | .rraAby _ => 0x7B#8
  | .nopAbx7C _ => 0x7C#8
  | .adcAbx _ => 0x7D#8
  | .rorAbx _ => 0x7E#8
  | .rraAbx _ => 0x7F#8
  | .nopImm80 _ => 0x80#8
  | .staIzx _ => 0x81#8
  | .nopImm82 _ => 0x82#8
  | .saxIzx _ => 0x83#8
  | .styZp _ => 0x84#8
  | .staZp _ => 0x85#8
  | .stxZp _ => 0x86#8
  | .saxZp _ => 0x87#8
  | .dey => 0x88#8
  | .nopImm89 _ => 0x89#8
  | .txa => 0x8A#8
  | .xaaImm _ => 0x8B#8
  | .styAbs _ => 0x8C#8
  | .staAbs _ => 0x8D#8
  | .stxAbs _ => 0x8E#8
  | .saxAbs _ => 0x8F#8
  | .bccRel _ => 0x90#8
  | .staIzy _ => 0x91#8
  | .jam92 => 0x92#8
  | .shaIzy _ => 0x93#8
  | .styZpx _ => 0x94#8
  | .staZpx _ => 0x95#8
  | .stxZpy _ => 0x96#8
  | .saxZpy _ => 0x97#8
  | .tya => 0x98#8
  | .staAby _ => 0x99#8
  | .txs => 0x9A#8
  | .tasAby _ => 0x9B#8
  | .shyAbx _ => 0x9C#8
  | .staAbx _ => 0x9D#8
  | .shxAby _ => 0x9E#8
  | .shaAby _ => 0x9F#8
  | .ldyImm _ => 0xA0#8
  | .ldaIzx _ => 0xA1#8
  | .ldxImm _ => 0xA2#8
  | .laxIzx _ => 0xA3#8
  | .ldyZp _ => 0xA4#8
  | .ldaZp _ => 0xA5#8
  | .ldxZp _ => 0xA6#8
  | .laxZp _ => 0xA7#8
  | .tay => 0xA8#8
  | .ldaImm _ => 0xA9#8
  | .tax => 0xAA#8
  | .lxaImm _ => 0xAB#8
  | .ldyAbs _ => 0xAC#8
  | .ldaAbs _ => 0xAD#8
  | .ldxAbs _ => 0xAE#8
  | .laxAbs _ => 0xAF#8
  | .bcsRel _ => 0xB0#8
  | .ldaIzy _ => 0xB1#8
  | .jamB2 => 0xB2#8
  | .laxIzy _ => 0xB3#8
  | .ldyZpx _ => 0xB4#8
  | .ldaZpx _ => 0xB5#8
  | .ldxZpy _ => 0xB6#8
  | .laxZpy _ => 0xB7#8
  | .clv => 0xB8#8
  | .ldaAby _ => 0xB9#8
  | .tsx => 0xBA#8
  | .lasAby _ => 0xBB#8
  | .ldyAbx _ => 0xBC#8
  | .ldaAbx _ => 0xBD#8
  | .ldxAby _ => 0xBE#8
  | .laxAby _ => 0xBF#8
  | .cpyImm _ => 0xC0#8
  | .cmpIzx _ => 0xC1#8
  | .nopImmC2 _ => 0xC2#8
  | .dcpIzx _ => 0xC3#8
  | .cpyZp _ => 0xC4#8
  | .cmpZp _ => 0xC5#8
  | .decZp _ => 0xC6#8
  | .dcpZp _ => 0xC7#8
  | .iny => 0xC8#8
  | .cmpImm _ => 0xC9#8
  | .dex => 0xCA#8
  | .sbxImm _ => 0xCB#8
  | .cpyAbs _ => 0xCC#8
  | .cmpAbs _ => 0xCD#8
  | .decAbs _ => 0xCE#8
  | .dcpAbs _ => 0xCF#8
  | .bneRel _ => 0xD0#8
  | .cmpIzy _ => 0xD1#8
  | .jamD2 => 0xD2#8
  | .dcpIzy _ => 0xD3#8
  | .nopZpxD4 _ => 0xD4#8
  | .cmpZpx _ => 0xD5#8
  | .decZpx _ => 0xD6#8
  | .dcpZpx _ => 0xD7#8
  | .cld => 0xD8#8
  | .cmpAby _ => 0xD9#8
  | .nopDA => 0xDA#8
  | .dcpAby _ => 0xDB#8
  | .nopAbxDC _ => 0xDC#8
  | .cmpAbx _ => 0xDD#8
  | .decAbx _ => 0xDE#8
  | .dcpAbx _ => 0xDF#8
  | .cpxImm _ => 0xE0#8
  | .sbcIzx _ => 0xE1#8
  | .nopImmE2 _ => 0xE2#8
  | .isbIzx _ => 0xE3#8
  | .cpxZp _ => 0xE4#8
  | .sbcZp _ => 0xE5#8
  | .incZp _ => 0xE6#8
  | .isbZp _ => 0xE7#8
  | .inx => 0xE8#8
  | .sbcImm _ => 0xE9#8
  | .nop => 0xEA#8
  | .sbcImmEB _ => 0xEB#8
  | .cpxAbs _ => 0xEC#8
  | .sbcAbs _ => 0xED#8
  | .incAbs _ => 0xEE#8
  | .isbAbs _ => 0xEF#8
  | .beqRel _ => 0xF0#8
  | .sbcIzy _ => 0xF1#8
  | .jamF2 => 0xF2#8
  | .isbIzy _ => 0xF3#8
  | .nopZpxF4 _ => 0xF4#8
  | .sbcZpx _ => 0xF5#8
  | .incZpx _ => 0xF6#8
  | .isbZpx _ => 0xF7#8
  | .sed => 0xF8#8
  | .sbcAby _ => 0xF9#8
  | .nopFA => 0xFA#8
  | .isbAby _ => 0xFB#8
  | .nopAbxFC _ => 0xFC#8
  | .sbcAbx _ => 0xFD#8
  | .incAbx _ => 0xFE#8
  | .isbAbx _ => 0xFF#8

/-- The operand bytes, in increasing address order (30_encoding.md R200, 20_memory.md R151). -/
def Instr.operandBytes : Instr → List Byte
  | .brk => []
  | .oraIzx zp => [zp]
  | .jam02 => []
  | .sloIzx zp => [zp]
  | .nopZp04 zp => [zp]
  | .oraZp zp => [zp]
  | .aslZp zp => [zp]
  | .sloZp zp => [zp]
  | .php => []
  | .oraImm imm => [imm]
  | .aslAcc => []
  | .ancImm0B imm => [imm]
  | .nopAbs addr => [loByte addr, hiByte addr]
  | .oraAbs addr => [loByte addr, hiByte addr]
  | .aslAbs addr => [loByte addr, hiByte addr]
  | .sloAbs addr => [loByte addr, hiByte addr]
  | .bplRel off => [off]
  | .oraIzy zp => [zp]
  | .jam12 => []
  | .sloIzy zp => [zp]
  | .nopZpx14 zp => [zp]
  | .oraZpx zp => [zp]
  | .aslZpx zp => [zp]
  | .sloZpx zp => [zp]
  | .clc => []
  | .oraAby addr => [loByte addr, hiByte addr]
  | .nop1A => []
  | .sloAby addr => [loByte addr, hiByte addr]
  | .nopAbx1C addr => [loByte addr, hiByte addr]
  | .oraAbx addr => [loByte addr, hiByte addr]
  | .aslAbx addr => [loByte addr, hiByte addr]
  | .sloAbx addr => [loByte addr, hiByte addr]
  | .jsrAbs addr => [loByte addr, hiByte addr]
  | .andIzx zp => [zp]
  | .jam22 => []
  | .rlaIzx zp => [zp]
  | .bitZp zp => [zp]
  | .andZp zp => [zp]
  | .rolZp zp => [zp]
  | .rlaZp zp => [zp]
  | .plp => []
  | .andImm imm => [imm]
  | .rolAcc => []
  | .ancImm2B imm => [imm]
  | .bitAbs addr => [loByte addr, hiByte addr]
  | .andAbs addr => [loByte addr, hiByte addr]
  | .rolAbs addr => [loByte addr, hiByte addr]
  | .rlaAbs addr => [loByte addr, hiByte addr]
  | .bmiRel off => [off]
  | .andIzy zp => [zp]
  | .jam32 => []
  | .rlaIzy zp => [zp]
  | .nopZpx34 zp => [zp]
  | .andZpx zp => [zp]
  | .rolZpx zp => [zp]
  | .rlaZpx zp => [zp]
  | .sec => []
  | .andAby addr => [loByte addr, hiByte addr]
  | .nop3A => []
  | .rlaAby addr => [loByte addr, hiByte addr]
  | .nopAbx3C addr => [loByte addr, hiByte addr]
  | .andAbx addr => [loByte addr, hiByte addr]
  | .rolAbx addr => [loByte addr, hiByte addr]
  | .rlaAbx addr => [loByte addr, hiByte addr]
  | .rti => []
  | .eorIzx zp => [zp]
  | .jam42 => []
  | .sreIzx zp => [zp]
  | .nopZp44 zp => [zp]
  | .eorZp zp => [zp]
  | .lsrZp zp => [zp]
  | .sreZp zp => [zp]
  | .pha => []
  | .eorImm imm => [imm]
  | .lsrAcc => []
  | .alrImm imm => [imm]
  | .jmpAbs addr => [loByte addr, hiByte addr]
  | .eorAbs addr => [loByte addr, hiByte addr]
  | .lsrAbs addr => [loByte addr, hiByte addr]
  | .sreAbs addr => [loByte addr, hiByte addr]
  | .bvcRel off => [off]
  | .eorIzy zp => [zp]
  | .jam52 => []
  | .sreIzy zp => [zp]
  | .nopZpx54 zp => [zp]
  | .eorZpx zp => [zp]
  | .lsrZpx zp => [zp]
  | .sreZpx zp => [zp]
  | .cli => []
  | .eorAby addr => [loByte addr, hiByte addr]
  | .nop5A => []
  | .sreAby addr => [loByte addr, hiByte addr]
  | .nopAbx5C addr => [loByte addr, hiByte addr]
  | .eorAbx addr => [loByte addr, hiByte addr]
  | .lsrAbx addr => [loByte addr, hiByte addr]
  | .sreAbx addr => [loByte addr, hiByte addr]
  | .rts => []
  | .adcIzx zp => [zp]
  | .jam62 => []
  | .rraIzx zp => [zp]
  | .nopZp64 zp => [zp]
  | .adcZp zp => [zp]
  | .rorZp zp => [zp]
  | .rraZp zp => [zp]
  | .pla => []
  | .adcImm imm => [imm]
  | .rorAcc => []
  | .arrImm imm => [imm]
  | .jmpInd addr => [loByte addr, hiByte addr]
  | .adcAbs addr => [loByte addr, hiByte addr]
  | .rorAbs addr => [loByte addr, hiByte addr]
  | .rraAbs addr => [loByte addr, hiByte addr]
  | .bvsRel off => [off]
  | .adcIzy zp => [zp]
  | .jam72 => []
  | .rraIzy zp => [zp]
  | .nopZpx74 zp => [zp]
  | .adcZpx zp => [zp]
  | .rorZpx zp => [zp]
  | .rraZpx zp => [zp]
  | .sei => []
  | .adcAby addr => [loByte addr, hiByte addr]
  | .nop7A => []
  | .rraAby addr => [loByte addr, hiByte addr]
  | .nopAbx7C addr => [loByte addr, hiByte addr]
  | .adcAbx addr => [loByte addr, hiByte addr]
  | .rorAbx addr => [loByte addr, hiByte addr]
  | .rraAbx addr => [loByte addr, hiByte addr]
  | .nopImm80 imm => [imm]
  | .staIzx zp => [zp]
  | .nopImm82 imm => [imm]
  | .saxIzx zp => [zp]
  | .styZp zp => [zp]
  | .staZp zp => [zp]
  | .stxZp zp => [zp]
  | .saxZp zp => [zp]
  | .dey => []
  | .nopImm89 imm => [imm]
  | .txa => []
  | .xaaImm imm => [imm]
  | .styAbs addr => [loByte addr, hiByte addr]
  | .staAbs addr => [loByte addr, hiByte addr]
  | .stxAbs addr => [loByte addr, hiByte addr]
  | .saxAbs addr => [loByte addr, hiByte addr]
  | .bccRel off => [off]
  | .staIzy zp => [zp]
  | .jam92 => []
  | .shaIzy zp => [zp]
  | .styZpx zp => [zp]
  | .staZpx zp => [zp]
  | .stxZpy zp => [zp]
  | .saxZpy zp => [zp]
  | .tya => []
  | .staAby addr => [loByte addr, hiByte addr]
  | .txs => []
  | .tasAby addr => [loByte addr, hiByte addr]
  | .shyAbx addr => [loByte addr, hiByte addr]
  | .staAbx addr => [loByte addr, hiByte addr]
  | .shxAby addr => [loByte addr, hiByte addr]
  | .shaAby addr => [loByte addr, hiByte addr]
  | .ldyImm imm => [imm]
  | .ldaIzx zp => [zp]
  | .ldxImm imm => [imm]
  | .laxIzx zp => [zp]
  | .ldyZp zp => [zp]
  | .ldaZp zp => [zp]
  | .ldxZp zp => [zp]
  | .laxZp zp => [zp]
  | .tay => []
  | .ldaImm imm => [imm]
  | .tax => []
  | .lxaImm imm => [imm]
  | .ldyAbs addr => [loByte addr, hiByte addr]
  | .ldaAbs addr => [loByte addr, hiByte addr]
  | .ldxAbs addr => [loByte addr, hiByte addr]
  | .laxAbs addr => [loByte addr, hiByte addr]
  | .bcsRel off => [off]
  | .ldaIzy zp => [zp]
  | .jamB2 => []
  | .laxIzy zp => [zp]
  | .ldyZpx zp => [zp]
  | .ldaZpx zp => [zp]
  | .ldxZpy zp => [zp]
  | .laxZpy zp => [zp]
  | .clv => []
  | .ldaAby addr => [loByte addr, hiByte addr]
  | .tsx => []
  | .lasAby addr => [loByte addr, hiByte addr]
  | .ldyAbx addr => [loByte addr, hiByte addr]
  | .ldaAbx addr => [loByte addr, hiByte addr]
  | .ldxAby addr => [loByte addr, hiByte addr]
  | .laxAby addr => [loByte addr, hiByte addr]
  | .cpyImm imm => [imm]
  | .cmpIzx zp => [zp]
  | .nopImmC2 imm => [imm]
  | .dcpIzx zp => [zp]
  | .cpyZp zp => [zp]
  | .cmpZp zp => [zp]
  | .decZp zp => [zp]
  | .dcpZp zp => [zp]
  | .iny => []
  | .cmpImm imm => [imm]
  | .dex => []
  | .sbxImm imm => [imm]
  | .cpyAbs addr => [loByte addr, hiByte addr]
  | .cmpAbs addr => [loByte addr, hiByte addr]
  | .decAbs addr => [loByte addr, hiByte addr]
  | .dcpAbs addr => [loByte addr, hiByte addr]
  | .bneRel off => [off]
  | .cmpIzy zp => [zp]
  | .jamD2 => []
  | .dcpIzy zp => [zp]
  | .nopZpxD4 zp => [zp]
  | .cmpZpx zp => [zp]
  | .decZpx zp => [zp]
  | .dcpZpx zp => [zp]
  | .cld => []
  | .cmpAby addr => [loByte addr, hiByte addr]
  | .nopDA => []
  | .dcpAby addr => [loByte addr, hiByte addr]
  | .nopAbxDC addr => [loByte addr, hiByte addr]
  | .cmpAbx addr => [loByte addr, hiByte addr]
  | .decAbx addr => [loByte addr, hiByte addr]
  | .dcpAbx addr => [loByte addr, hiByte addr]
  | .cpxImm imm => [imm]
  | .sbcIzx zp => [zp]
  | .nopImmE2 imm => [imm]
  | .isbIzx zp => [zp]
  | .cpxZp zp => [zp]
  | .sbcZp zp => [zp]
  | .incZp zp => [zp]
  | .isbZp zp => [zp]
  | .inx => []
  | .sbcImm imm => [imm]
  | .nop => []
  | .sbcImmEB imm => [imm]
  | .cpxAbs addr => [loByte addr, hiByte addr]
  | .sbcAbs addr => [loByte addr, hiByte addr]
  | .incAbs addr => [loByte addr, hiByte addr]
  | .isbAbs addr => [loByte addr, hiByte addr]
  | .beqRel off => [off]
  | .sbcIzy zp => [zp]
  | .jamF2 => []
  | .isbIzy zp => [zp]
  | .nopZpxF4 zp => [zp]
  | .sbcZpx zp => [zp]
  | .incZpx zp => [zp]
  | .isbZpx zp => [zp]
  | .sed => []
  | .sbcAby addr => [loByte addr, hiByte addr]
  | .nopFA => []
  | .isbAby addr => [loByte addr, hiByte addr]
  | .nopAbxFC addr => [loByte addr, hiByte addr]
  | .sbcAbx addr => [loByte addr, hiByte addr]
  | .incAbx addr => [loByte addr, hiByte addr]
  | .isbAbx addr => [loByte addr, hiByte addr]

/-- The encoder: the opcode byte, then the operand bytes (30_encoding.md R200). -/
def encode (i : Instr) : List Byte := i.opcode :: i.operandBytes

/-- The `bytes` column of opcode_table.json (30_encoding.md R203). BRK is listed with 1. -/
def Instr.size (i : Instr) : Nat := 1 + i.operandBytes.length

/-- The `mnemonic` column of opcode_table.json. -/
def Instr.mnemonic : Instr → Mnemonic
  | .brk => .BRK
  | .oraIzx _ => .ORA
  | .jam02 => .JAM
  | .sloIzx _ => .SLO
  | .nopZp04 _ => .NOP
  | .oraZp _ => .ORA
  | .aslZp _ => .ASL
  | .sloZp _ => .SLO
  | .php => .PHP
  | .oraImm _ => .ORA
  | .aslAcc => .ASL
  | .ancImm0B _ => .ANC
  | .nopAbs _ => .NOP
  | .oraAbs _ => .ORA
  | .aslAbs _ => .ASL
  | .sloAbs _ => .SLO
  | .bplRel _ => .BPL
  | .oraIzy _ => .ORA
  | .jam12 => .JAM
  | .sloIzy _ => .SLO
  | .nopZpx14 _ => .NOP
  | .oraZpx _ => .ORA
  | .aslZpx _ => .ASL
  | .sloZpx _ => .SLO
  | .clc => .CLC
  | .oraAby _ => .ORA
  | .nop1A => .NOP
  | .sloAby _ => .SLO
  | .nopAbx1C _ => .NOP
  | .oraAbx _ => .ORA
  | .aslAbx _ => .ASL
  | .sloAbx _ => .SLO
  | .jsrAbs _ => .JSR
  | .andIzx _ => .AND
  | .jam22 => .JAM
  | .rlaIzx _ => .RLA
  | .bitZp _ => .BIT
  | .andZp _ => .AND
  | .rolZp _ => .ROL
  | .rlaZp _ => .RLA
  | .plp => .PLP
  | .andImm _ => .AND
  | .rolAcc => .ROL
  | .ancImm2B _ => .ANC
  | .bitAbs _ => .BIT
  | .andAbs _ => .AND
  | .rolAbs _ => .ROL
  | .rlaAbs _ => .RLA
  | .bmiRel _ => .BMI
  | .andIzy _ => .AND
  | .jam32 => .JAM
  | .rlaIzy _ => .RLA
  | .nopZpx34 _ => .NOP
  | .andZpx _ => .AND
  | .rolZpx _ => .ROL
  | .rlaZpx _ => .RLA
  | .sec => .SEC
  | .andAby _ => .AND
  | .nop3A => .NOP
  | .rlaAby _ => .RLA
  | .nopAbx3C _ => .NOP
  | .andAbx _ => .AND
  | .rolAbx _ => .ROL
  | .rlaAbx _ => .RLA
  | .rti => .RTI
  | .eorIzx _ => .EOR
  | .jam42 => .JAM
  | .sreIzx _ => .SRE
  | .nopZp44 _ => .NOP
  | .eorZp _ => .EOR
  | .lsrZp _ => .LSR
  | .sreZp _ => .SRE
  | .pha => .PHA
  | .eorImm _ => .EOR
  | .lsrAcc => .LSR
  | .alrImm _ => .ALR
  | .jmpAbs _ => .JMP
  | .eorAbs _ => .EOR
  | .lsrAbs _ => .LSR
  | .sreAbs _ => .SRE
  | .bvcRel _ => .BVC
  | .eorIzy _ => .EOR
  | .jam52 => .JAM
  | .sreIzy _ => .SRE
  | .nopZpx54 _ => .NOP
  | .eorZpx _ => .EOR
  | .lsrZpx _ => .LSR
  | .sreZpx _ => .SRE
  | .cli => .CLI
  | .eorAby _ => .EOR
  | .nop5A => .NOP
  | .sreAby _ => .SRE
  | .nopAbx5C _ => .NOP
  | .eorAbx _ => .EOR
  | .lsrAbx _ => .LSR
  | .sreAbx _ => .SRE
  | .rts => .RTS
  | .adcIzx _ => .ADC
  | .jam62 => .JAM
  | .rraIzx _ => .RRA
  | .nopZp64 _ => .NOP
  | .adcZp _ => .ADC
  | .rorZp _ => .ROR
  | .rraZp _ => .RRA
  | .pla => .PLA
  | .adcImm _ => .ADC
  | .rorAcc => .ROR
  | .arrImm _ => .ARR
  | .jmpInd _ => .JMP
  | .adcAbs _ => .ADC
  | .rorAbs _ => .ROR
  | .rraAbs _ => .RRA
  | .bvsRel _ => .BVS
  | .adcIzy _ => .ADC
  | .jam72 => .JAM
  | .rraIzy _ => .RRA
  | .nopZpx74 _ => .NOP
  | .adcZpx _ => .ADC
  | .rorZpx _ => .ROR
  | .rraZpx _ => .RRA
  | .sei => .SEI
  | .adcAby _ => .ADC
  | .nop7A => .NOP
  | .rraAby _ => .RRA
  | .nopAbx7C _ => .NOP
  | .adcAbx _ => .ADC
  | .rorAbx _ => .ROR
  | .rraAbx _ => .RRA
  | .nopImm80 _ => .NOP
  | .staIzx _ => .STA
  | .nopImm82 _ => .NOP
  | .saxIzx _ => .SAX
  | .styZp _ => .STY
  | .staZp _ => .STA
  | .stxZp _ => .STX
  | .saxZp _ => .SAX
  | .dey => .DEY
  | .nopImm89 _ => .NOP
  | .txa => .TXA
  | .xaaImm _ => .XAA
  | .styAbs _ => .STY
  | .staAbs _ => .STA
  | .stxAbs _ => .STX
  | .saxAbs _ => .SAX
  | .bccRel _ => .BCC
  | .staIzy _ => .STA
  | .jam92 => .JAM
  | .shaIzy _ => .SHA
  | .styZpx _ => .STY
  | .staZpx _ => .STA
  | .stxZpy _ => .STX
  | .saxZpy _ => .SAX
  | .tya => .TYA
  | .staAby _ => .STA
  | .txs => .TXS
  | .tasAby _ => .TAS
  | .shyAbx _ => .SHY
  | .staAbx _ => .STA
  | .shxAby _ => .SHX
  | .shaAby _ => .SHA
  | .ldyImm _ => .LDY
  | .ldaIzx _ => .LDA
  | .ldxImm _ => .LDX
  | .laxIzx _ => .LAX
  | .ldyZp _ => .LDY
  | .ldaZp _ => .LDA
  | .ldxZp _ => .LDX
  | .laxZp _ => .LAX
  | .tay => .TAY
  | .ldaImm _ => .LDA
  | .tax => .TAX
  | .lxaImm _ => .LXA
  | .ldyAbs _ => .LDY
  | .ldaAbs _ => .LDA
  | .ldxAbs _ => .LDX
  | .laxAbs _ => .LAX
  | .bcsRel _ => .BCS
  | .ldaIzy _ => .LDA
  | .jamB2 => .JAM
  | .laxIzy _ => .LAX
  | .ldyZpx _ => .LDY
  | .ldaZpx _ => .LDA
  | .ldxZpy _ => .LDX
  | .laxZpy _ => .LAX
  | .clv => .CLV
  | .ldaAby _ => .LDA
  | .tsx => .TSX
  | .lasAby _ => .LAS
  | .ldyAbx _ => .LDY
  | .ldaAbx _ => .LDA
  | .ldxAby _ => .LDX
  | .laxAby _ => .LAX
  | .cpyImm _ => .CPY
  | .cmpIzx _ => .CMP
  | .nopImmC2 _ => .NOP
  | .dcpIzx _ => .DCP
  | .cpyZp _ => .CPY
  | .cmpZp _ => .CMP
  | .decZp _ => .DEC
  | .dcpZp _ => .DCP
  | .iny => .INY
  | .cmpImm _ => .CMP
  | .dex => .DEX
  | .sbxImm _ => .SBX
  | .cpyAbs _ => .CPY
  | .cmpAbs _ => .CMP
  | .decAbs _ => .DEC
  | .dcpAbs _ => .DCP
  | .bneRel _ => .BNE
  | .cmpIzy _ => .CMP
  | .jamD2 => .JAM
  | .dcpIzy _ => .DCP
  | .nopZpxD4 _ => .NOP
  | .cmpZpx _ => .CMP
  | .decZpx _ => .DEC
  | .dcpZpx _ => .DCP
  | .cld => .CLD
  | .cmpAby _ => .CMP
  | .nopDA => .NOP
  | .dcpAby _ => .DCP
  | .nopAbxDC _ => .NOP
  | .cmpAbx _ => .CMP
  | .decAbx _ => .DEC
  | .dcpAbx _ => .DCP
  | .cpxImm _ => .CPX
  | .sbcIzx _ => .SBC
  | .nopImmE2 _ => .NOP
  | .isbIzx _ => .ISB
  | .cpxZp _ => .CPX
  | .sbcZp _ => .SBC
  | .incZp _ => .INC
  | .isbZp _ => .ISB
  | .inx => .INX
  | .sbcImm _ => .SBC
  | .nop => .NOP
  | .sbcImmEB _ => .SBC
  | .cpxAbs _ => .CPX
  | .sbcAbs _ => .SBC
  | .incAbs _ => .INC
  | .isbAbs _ => .ISB
  | .beqRel _ => .BEQ
  | .sbcIzy _ => .SBC
  | .jamF2 => .JAM
  | .isbIzy _ => .ISB
  | .nopZpxF4 _ => .NOP
  | .sbcZpx _ => .SBC
  | .incZpx _ => .INC
  | .isbZpx _ => .ISB
  | .sed => .SED
  | .sbcAby _ => .SBC
  | .nopFA => .NOP
  | .isbAby _ => .ISB
  | .nopAbxFC _ => .NOP
  | .sbcAbx _ => .SBC
  | .incAbx _ => .INC
  | .isbAbx _ => .ISB

/-- The `official` column of opcode_table.json: false shows the marker of 30_encoding.md R213. -/
def Instr.official : Instr → Bool
  | .brk => true
  | .oraIzx _ => true
  | .jam02 => false
  | .sloIzx _ => false
  | .nopZp04 _ => false
  | .oraZp _ => true
  | .aslZp _ => true
  | .sloZp _ => false
  | .php => true
  | .oraImm _ => true
  | .aslAcc => true
  | .ancImm0B _ => false
  | .nopAbs _ => false
  | .oraAbs _ => true
  | .aslAbs _ => true
  | .sloAbs _ => false
  | .bplRel _ => true
  | .oraIzy _ => true
  | .jam12 => false
  | .sloIzy _ => false
  | .nopZpx14 _ => false
  | .oraZpx _ => true
  | .aslZpx _ => true
  | .sloZpx _ => false
  | .clc => true
  | .oraAby _ => true
  | .nop1A => false
  | .sloAby _ => false
  | .nopAbx1C _ => false
  | .oraAbx _ => true
  | .aslAbx _ => true
  | .sloAbx _ => false
  | .jsrAbs _ => true
  | .andIzx _ => true
  | .jam22 => false
  | .rlaIzx _ => false
  | .bitZp _ => true
  | .andZp _ => true
  | .rolZp _ => true
  | .rlaZp _ => false
  | .plp => true
  | .andImm _ => true
  | .rolAcc => true
  | .ancImm2B _ => false
  | .bitAbs _ => true
  | .andAbs _ => true
  | .rolAbs _ => true
  | .rlaAbs _ => false
  | .bmiRel _ => true
  | .andIzy _ => true
  | .jam32 => false
  | .rlaIzy _ => false
  | .nopZpx34 _ => false
  | .andZpx _ => true
  | .rolZpx _ => true
  | .rlaZpx _ => false
  | .sec => true
  | .andAby _ => true
  | .nop3A => false
  | .rlaAby _ => false
  | .nopAbx3C _ => false
  | .andAbx _ => true
  | .rolAbx _ => true
  | .rlaAbx _ => false
  | .rti => true
  | .eorIzx _ => true
  | .jam42 => false
  | .sreIzx _ => false
  | .nopZp44 _ => false
  | .eorZp _ => true
  | .lsrZp _ => true
  | .sreZp _ => false
  | .pha => true
  | .eorImm _ => true
  | .lsrAcc => true
  | .alrImm _ => false
  | .jmpAbs _ => true
  | .eorAbs _ => true
  | .lsrAbs _ => true
  | .sreAbs _ => false
  | .bvcRel _ => true
  | .eorIzy _ => true
  | .jam52 => false
  | .sreIzy _ => false
  | .nopZpx54 _ => false
  | .eorZpx _ => true
  | .lsrZpx _ => true
  | .sreZpx _ => false
  | .cli => true
  | .eorAby _ => true
  | .nop5A => false
  | .sreAby _ => false
  | .nopAbx5C _ => false
  | .eorAbx _ => true
  | .lsrAbx _ => true
  | .sreAbx _ => false
  | .rts => true
  | .adcIzx _ => true
  | .jam62 => false
  | .rraIzx _ => false
  | .nopZp64 _ => false
  | .adcZp _ => true
  | .rorZp _ => true
  | .rraZp _ => false
  | .pla => true
  | .adcImm _ => true
  | .rorAcc => true
  | .arrImm _ => false
  | .jmpInd _ => true
  | .adcAbs _ => true
  | .rorAbs _ => true
  | .rraAbs _ => false
  | .bvsRel _ => true
  | .adcIzy _ => true
  | .jam72 => false
  | .rraIzy _ => false
  | .nopZpx74 _ => false
  | .adcZpx _ => true
  | .rorZpx _ => true
  | .rraZpx _ => false
  | .sei => true
  | .adcAby _ => true
  | .nop7A => false
  | .rraAby _ => false
  | .nopAbx7C _ => false
  | .adcAbx _ => true
  | .rorAbx _ => true
  | .rraAbx _ => false
  | .nopImm80 _ => false
  | .staIzx _ => true
  | .nopImm82 _ => false
  | .saxIzx _ => false
  | .styZp _ => true
  | .staZp _ => true
  | .stxZp _ => true
  | .saxZp _ => false
  | .dey => true
  | .nopImm89 _ => false
  | .txa => true
  | .xaaImm _ => false
  | .styAbs _ => true
  | .staAbs _ => true
  | .stxAbs _ => true
  | .saxAbs _ => false
  | .bccRel _ => true
  | .staIzy _ => true
  | .jam92 => false
  | .shaIzy _ => false
  | .styZpx _ => true
  | .staZpx _ => true
  | .stxZpy _ => true
  | .saxZpy _ => false
  | .tya => true
  | .staAby _ => true
  | .txs => true
  | .tasAby _ => false
  | .shyAbx _ => false
  | .staAbx _ => true
  | .shxAby _ => false
  | .shaAby _ => false
  | .ldyImm _ => true
  | .ldaIzx _ => true
  | .ldxImm _ => true
  | .laxIzx _ => false
  | .ldyZp _ => true
  | .ldaZp _ => true
  | .ldxZp _ => true
  | .laxZp _ => false
  | .tay => true
  | .ldaImm _ => true
  | .tax => true
  | .lxaImm _ => false
  | .ldyAbs _ => true
  | .ldaAbs _ => true
  | .ldxAbs _ => true
  | .laxAbs _ => false
  | .bcsRel _ => true
  | .ldaIzy _ => true
  | .jamB2 => false
  | .laxIzy _ => false
  | .ldyZpx _ => true
  | .ldaZpx _ => true
  | .ldxZpy _ => true
  | .laxZpy _ => false
  | .clv => true
  | .ldaAby _ => true
  | .tsx => true
  | .lasAby _ => false
  | .ldyAbx _ => true
  | .ldaAbx _ => true
  | .ldxAby _ => true
  | .laxAby _ => false
  | .cpyImm _ => true
  | .cmpIzx _ => true
  | .nopImmC2 _ => false
  | .dcpIzx _ => false
  | .cpyZp _ => true
  | .cmpZp _ => true
  | .decZp _ => true
  | .dcpZp _ => false
  | .iny => true
  | .cmpImm _ => true
  | .dex => true
  | .sbxImm _ => false
  | .cpyAbs _ => true
  | .cmpAbs _ => true
  | .decAbs _ => true
  | .dcpAbs _ => false
  | .bneRel _ => true
  | .cmpIzy _ => true
  | .jamD2 => false
  | .dcpIzy _ => false
  | .nopZpxD4 _ => false
  | .cmpZpx _ => true
  | .decZpx _ => true
  | .dcpZpx _ => false
  | .cld => true
  | .cmpAby _ => true
  | .nopDA => false
  | .dcpAby _ => false
  | .nopAbxDC _ => false
  | .cmpAbx _ => true
  | .decAbx _ => true
  | .dcpAbx _ => false
  | .cpxImm _ => true
  | .sbcIzx _ => true
  | .nopImmE2 _ => false
  | .isbIzx _ => false
  | .cpxZp _ => true
  | .sbcZp _ => true
  | .incZp _ => true
  | .isbZp _ => false
  | .inx => true
  | .sbcImm _ => true
  | .nop => true
  | .sbcImmEB _ => false
  | .cpxAbs _ => true
  | .sbcAbs _ => true
  | .incAbs _ => true
  | .isbAbs _ => false
  | .beqRel _ => true
  | .sbcIzy _ => true
  | .jamF2 => false
  | .isbIzy _ => false
  | .nopZpxF4 _ => false
  | .sbcZpx _ => true
  | .incZpx _ => true
  | .isbZpx _ => false
  | .sed => true
  | .sbcAby _ => true
  | .nopFA => false
  | .isbAby _ => false
  | .nopAbxFC _ => false
  | .sbcAbx _ => true
  | .incAbx _ => true
  | .isbAbx _ => false

/-- The `cycles` column of opcode_table.json: the base cycle count (40_addressing_modes.md R259). -/
def Instr.baseCycles : Instr → Nat
  | .brk => 7
  | .oraIzx _ => 6
  | .jam02 => 1
  | .sloIzx _ => 8
  | .nopZp04 _ => 3
  | .oraZp _ => 3
  | .aslZp _ => 5
  | .sloZp _ => 5
  | .php => 3
  | .oraImm _ => 2
  | .aslAcc => 2
  | .ancImm0B _ => 2
  | .nopAbs _ => 4
  | .oraAbs _ => 4
  | .aslAbs _ => 6
  | .sloAbs _ => 6
  | .bplRel _ => 2
  | .oraIzy _ => 5
  | .jam12 => 1
  | .sloIzy _ => 8
  | .nopZpx14 _ => 4
  | .oraZpx _ => 4
  | .aslZpx _ => 6
  | .sloZpx _ => 6
  | .clc => 2
  | .oraAby _ => 4
  | .nop1A => 2
  | .sloAby _ => 7
  | .nopAbx1C _ => 4
  | .oraAbx _ => 4
  | .aslAbx _ => 7
  | .sloAbx _ => 7
  | .jsrAbs _ => 6
  | .andIzx _ => 6
  | .jam22 => 1
  | .rlaIzx _ => 8
  | .bitZp _ => 3
  | .andZp _ => 3
  | .rolZp _ => 5
  | .rlaZp _ => 5
  | .plp => 4
  | .andImm _ => 2
  | .rolAcc => 2
  | .ancImm2B _ => 2
  | .bitAbs _ => 4
  | .andAbs _ => 4
  | .rolAbs _ => 6
  | .rlaAbs _ => 6
  | .bmiRel _ => 2
  | .andIzy _ => 5
  | .jam32 => 1
  | .rlaIzy _ => 8
  | .nopZpx34 _ => 4
  | .andZpx _ => 4
  | .rolZpx _ => 6
  | .rlaZpx _ => 6
  | .sec => 2
  | .andAby _ => 4
  | .nop3A => 2
  | .rlaAby _ => 7
  | .nopAbx3C _ => 4
  | .andAbx _ => 4
  | .rolAbx _ => 7
  | .rlaAbx _ => 7
  | .rti => 6
  | .eorIzx _ => 6
  | .jam42 => 1
  | .sreIzx _ => 8
  | .nopZp44 _ => 3
  | .eorZp _ => 3
  | .lsrZp _ => 5
  | .sreZp _ => 5
  | .pha => 3
  | .eorImm _ => 2
  | .lsrAcc => 2
  | .alrImm _ => 2
  | .jmpAbs _ => 3
  | .eorAbs _ => 4
  | .lsrAbs _ => 6
  | .sreAbs _ => 6
  | .bvcRel _ => 2
  | .eorIzy _ => 5
  | .jam52 => 1
  | .sreIzy _ => 8
  | .nopZpx54 _ => 4
  | .eorZpx _ => 4
  | .lsrZpx _ => 6
  | .sreZpx _ => 6
  | .cli => 2
  | .eorAby _ => 4
  | .nop5A => 2
  | .sreAby _ => 7
  | .nopAbx5C _ => 4
  | .eorAbx _ => 4
  | .lsrAbx _ => 7
  | .sreAbx _ => 7
  | .rts => 6
  | .adcIzx _ => 6
  | .jam62 => 1
  | .rraIzx _ => 8
  | .nopZp64 _ => 3
  | .adcZp _ => 3
  | .rorZp _ => 5
  | .rraZp _ => 5
  | .pla => 4
  | .adcImm _ => 2
  | .rorAcc => 2
  | .arrImm _ => 2
  | .jmpInd _ => 5
  | .adcAbs _ => 4
  | .rorAbs _ => 6
  | .rraAbs _ => 6
  | .bvsRel _ => 2
  | .adcIzy _ => 5
  | .jam72 => 1
  | .rraIzy _ => 8
  | .nopZpx74 _ => 4
  | .adcZpx _ => 4
  | .rorZpx _ => 6
  | .rraZpx _ => 6
  | .sei => 2
  | .adcAby _ => 4
  | .nop7A => 2
  | .rraAby _ => 7
  | .nopAbx7C _ => 4
  | .adcAbx _ => 4
  | .rorAbx _ => 7
  | .rraAbx _ => 7
  | .nopImm80 _ => 2
  | .staIzx _ => 6
  | .nopImm82 _ => 2
  | .saxIzx _ => 6
  | .styZp _ => 3
  | .staZp _ => 3
  | .stxZp _ => 3
  | .saxZp _ => 3
  | .dey => 2
  | .nopImm89 _ => 2
  | .txa => 2
  | .xaaImm _ => 1
  | .styAbs _ => 4
  | .staAbs _ => 4
  | .stxAbs _ => 4
  | .saxAbs _ => 4
  | .bccRel _ => 2
  | .staIzy _ => 6
  | .jam92 => 1
  | .shaIzy _ => 1
  | .styZpx _ => 4
  | .staZpx _ => 4
  | .stxZpy _ => 4
  | .saxZpy _ => 4
  | .tya => 2
  | .staAby _ => 5
  | .txs => 2
  | .tasAby _ => 1
  | .shyAbx _ => 1
  | .staAbx _ => 5
  | .shxAby _ => 1
  | .shaAby _ => 1
  | .ldyImm _ => 2
  | .ldaIzx _ => 6
  | .ldxImm _ => 2
  | .laxIzx _ => 6
  | .ldyZp _ => 3
  | .ldaZp _ => 3
  | .ldxZp _ => 3
  | .laxZp _ => 3
  | .tay => 2
  | .ldaImm _ => 2
  | .tax => 2
  | .lxaImm _ => 1
  | .ldyAbs _ => 4
  | .ldaAbs _ => 4
  | .ldxAbs _ => 4
  | .laxAbs _ => 4
  | .bcsRel _ => 2
  | .ldaIzy _ => 5
  | .jamB2 => 1
  | .laxIzy _ => 5
  | .ldyZpx _ => 4
  | .ldaZpx _ => 4
  | .ldxZpy _ => 4
  | .laxZpy _ => 4
  | .clv => 2
  | .ldaAby _ => 4
  | .tsx => 2
  | .lasAby _ => 4
  | .ldyAbx _ => 4
  | .ldaAbx _ => 4
  | .ldxAby _ => 4
  | .laxAby _ => 4
  | .cpyImm _ => 2
  | .cmpIzx _ => 6
  | .nopImmC2 _ => 2
  | .dcpIzx _ => 8
  | .cpyZp _ => 3
  | .cmpZp _ => 3
  | .decZp _ => 5
  | .dcpZp _ => 5
  | .iny => 2
  | .cmpImm _ => 2
  | .dex => 2
  | .sbxImm _ => 2
  | .cpyAbs _ => 4
  | .cmpAbs _ => 4
  | .decAbs _ => 6
  | .dcpAbs _ => 6
  | .bneRel _ => 2
  | .cmpIzy _ => 5
  | .jamD2 => 1
  | .dcpIzy _ => 8
  | .nopZpxD4 _ => 4
  | .cmpZpx _ => 4
  | .decZpx _ => 6
  | .dcpZpx _ => 6
  | .cld => 2
  | .cmpAby _ => 4
  | .nopDA => 2
  | .dcpAby _ => 7
  | .nopAbxDC _ => 4
  | .cmpAbx _ => 4
  | .decAbx _ => 7
  | .dcpAbx _ => 7
  | .cpxImm _ => 2
  | .sbcIzx _ => 6
  | .nopImmE2 _ => 2
  | .isbIzx _ => 8
  | .cpxZp _ => 3
  | .sbcZp _ => 3
  | .incZp _ => 5
  | .isbZp _ => 5
  | .inx => 2
  | .sbcImm _ => 2
  | .nop => 2
  | .sbcImmEB _ => 2
  | .cpxAbs _ => 4
  | .sbcAbs _ => 4
  | .incAbs _ => 6
  | .isbAbs _ => 6
  | .beqRel _ => 2
  | .sbcIzy _ => 5
  | .jamF2 => 1
  | .isbIzy _ => 8
  | .nopZpxF4 _ => 4
  | .sbcZpx _ => 4
  | .incZpx _ => 6
  | .isbZpx _ => 6
  | .sed => 2
  | .sbcAby _ => 4
  | .nopFA => 2
  | .isbAby _ => 7
  | .nopAbxFC _ => 4
  | .sbcAbx _ => 4
  | .incAbx _ => 7
  | .isbAbx _ => 7

/-- The `penalty` column of opcode_table.json: the most extra cycles (40_addressing_modes.md R257). -/
def Instr.penalty : Instr → Nat
  | .brk => 0
  | .oraIzx _ => 0
  | .jam02 => 0
  | .sloIzx _ => 0
  | .nopZp04 _ => 0
  | .oraZp _ => 0
  | .aslZp _ => 0
  | .sloZp _ => 0
  | .php => 0
  | .oraImm _ => 0
  | .aslAcc => 0
  | .ancImm0B _ => 0
  | .nopAbs _ => 0
  | .oraAbs _ => 0
  | .aslAbs _ => 0
  | .sloAbs _ => 0
  | .bplRel _ => 2
  | .oraIzy _ => 1
  | .jam12 => 0
  | .sloIzy _ => 0
  | .nopZpx14 _ => 0
  | .oraZpx _ => 0
  | .aslZpx _ => 0
  | .sloZpx _ => 0
  | .clc => 0
  | .oraAby _ => 1
  | .nop1A => 0
  | .sloAby _ => 0
  | .nopAbx1C _ => 1
  | .oraAbx _ => 1
  | .aslAbx _ => 0
  | .sloAbx _ => 0
  | .jsrAbs _ => 0
  | .andIzx _ => 0
  | .jam22 => 0
  | .rlaIzx _ => 0
  | .bitZp _ => 0
  | .andZp _ => 0
  | .rolZp _ => 0
  | .rlaZp _ => 0
  | .plp => 0
  | .andImm _ => 0
  | .rolAcc => 0
  | .ancImm2B _ => 0
  | .bitAbs _ => 0
  | .andAbs _ => 0
  | .rolAbs _ => 0
  | .rlaAbs _ => 0
  | .bmiRel _ => 2
  | .andIzy _ => 1
  | .jam32 => 0
  | .rlaIzy _ => 0
  | .nopZpx34 _ => 0
  | .andZpx _ => 0
  | .rolZpx _ => 0
  | .rlaZpx _ => 0
  | .sec => 0
  | .andAby _ => 1
  | .nop3A => 0
  | .rlaAby _ => 0
  | .nopAbx3C _ => 1
  | .andAbx _ => 1
  | .rolAbx _ => 0
  | .rlaAbx _ => 0
  | .rti => 0
  | .eorIzx _ => 0
  | .jam42 => 0
  | .sreIzx _ => 0
  | .nopZp44 _ => 0
  | .eorZp _ => 0
  | .lsrZp _ => 0
  | .sreZp _ => 0
  | .pha => 0
  | .eorImm _ => 0
  | .lsrAcc => 0
  | .alrImm _ => 0
  | .jmpAbs _ => 0
  | .eorAbs _ => 0
  | .lsrAbs _ => 0
  | .sreAbs _ => 0
  | .bvcRel _ => 2
  | .eorIzy _ => 1
  | .jam52 => 0
  | .sreIzy _ => 0
  | .nopZpx54 _ => 0
  | .eorZpx _ => 0
  | .lsrZpx _ => 0
  | .sreZpx _ => 0
  | .cli => 0
  | .eorAby _ => 1
  | .nop5A => 0
  | .sreAby _ => 0
  | .nopAbx5C _ => 1
  | .eorAbx _ => 1
  | .lsrAbx _ => 0
  | .sreAbx _ => 0
  | .rts => 0
  | .adcIzx _ => 0
  | .jam62 => 0
  | .rraIzx _ => 0
  | .nopZp64 _ => 0
  | .adcZp _ => 0
  | .rorZp _ => 0
  | .rraZp _ => 0
  | .pla => 0
  | .adcImm _ => 0
  | .rorAcc => 0
  | .arrImm _ => 0
  | .jmpInd _ => 0
  | .adcAbs _ => 0
  | .rorAbs _ => 0
  | .rraAbs _ => 0
  | .bvsRel _ => 2
  | .adcIzy _ => 1
  | .jam72 => 0
  | .rraIzy _ => 0
  | .nopZpx74 _ => 0
  | .adcZpx _ => 0
  | .rorZpx _ => 0
  | .rraZpx _ => 0
  | .sei => 0
  | .adcAby _ => 1
  | .nop7A => 0
  | .rraAby _ => 0
  | .nopAbx7C _ => 1
  | .adcAbx _ => 1
  | .rorAbx _ => 0
  | .rraAbx _ => 0
  | .nopImm80 _ => 0
  | .staIzx _ => 0
  | .nopImm82 _ => 0
  | .saxIzx _ => 0
  | .styZp _ => 0
  | .staZp _ => 0
  | .stxZp _ => 0
  | .saxZp _ => 0
  | .dey => 0
  | .nopImm89 _ => 0
  | .txa => 0
  | .xaaImm _ => 0
  | .styAbs _ => 0
  | .staAbs _ => 0
  | .stxAbs _ => 0
  | .saxAbs _ => 0
  | .bccRel _ => 2
  | .staIzy _ => 0
  | .jam92 => 0
  | .shaIzy _ => 0
  | .styZpx _ => 0
  | .staZpx _ => 0
  | .stxZpy _ => 0
  | .saxZpy _ => 0
  | .tya => 0
  | .staAby _ => 0
  | .txs => 0
  | .tasAby _ => 0
  | .shyAbx _ => 0
  | .staAbx _ => 0
  | .shxAby _ => 0
  | .shaAby _ => 0
  | .ldyImm _ => 0
  | .ldaIzx _ => 0
  | .ldxImm _ => 0
  | .laxIzx _ => 0
  | .ldyZp _ => 0
  | .ldaZp _ => 0
  | .ldxZp _ => 0
  | .laxZp _ => 0
  | .tay => 0
  | .ldaImm _ => 0
  | .tax => 0
  | .lxaImm _ => 0
  | .ldyAbs _ => 0
  | .ldaAbs _ => 0
  | .ldxAbs _ => 0
  | .laxAbs _ => 0
  | .bcsRel _ => 2
  | .ldaIzy _ => 1
  | .jamB2 => 0
  | .laxIzy _ => 1
  | .ldyZpx _ => 0
  | .ldaZpx _ => 0
  | .ldxZpy _ => 0
  | .laxZpy _ => 0
  | .clv => 0
  | .ldaAby _ => 1
  | .tsx => 0
  | .lasAby _ => 1
  | .ldyAbx _ => 1
  | .ldaAbx _ => 1
  | .ldxAby _ => 1
  | .laxAby _ => 1
  | .cpyImm _ => 0
  | .cmpIzx _ => 0
  | .nopImmC2 _ => 0
  | .dcpIzx _ => 0
  | .cpyZp _ => 0
  | .cmpZp _ => 0
  | .decZp _ => 0
  | .dcpZp _ => 0
  | .iny => 0
  | .cmpImm _ => 0
  | .dex => 0
  | .sbxImm _ => 0
  | .cpyAbs _ => 0
  | .cmpAbs _ => 0
  | .decAbs _ => 0
  | .dcpAbs _ => 0
  | .bneRel _ => 2
  | .cmpIzy _ => 1
  | .jamD2 => 0
  | .dcpIzy _ => 0
  | .nopZpxD4 _ => 0
  | .cmpZpx _ => 0
  | .decZpx _ => 0
  | .dcpZpx _ => 0
  | .cld => 0
  | .cmpAby _ => 1
  | .nopDA => 0
  | .dcpAby _ => 0
  | .nopAbxDC _ => 1
  | .cmpAbx _ => 1
  | .decAbx _ => 0
  | .dcpAbx _ => 0
  | .cpxImm _ => 0
  | .sbcIzx _ => 0
  | .nopImmE2 _ => 0
  | .isbIzx _ => 0
  | .cpxZp _ => 0
  | .sbcZp _ => 0
  | .incZp _ => 0
  | .isbZp _ => 0
  | .inx => 0
  | .sbcImm _ => 0
  | .nop => 0
  | .sbcImmEB _ => 0
  | .cpxAbs _ => 0
  | .sbcAbs _ => 0
  | .incAbs _ => 0
  | .isbAbs _ => 0
  | .beqRel _ => 2
  | .sbcIzy _ => 1
  | .jamF2 => 0
  | .isbIzy _ => 0
  | .nopZpxF4 _ => 0
  | .sbcZpx _ => 0
  | .incZpx _ => 0
  | .isbZpx _ => 0
  | .sed => 0
  | .sbcAby _ => 1
  | .nopFA => 0
  | .isbAby _ => 0
  | .nopAbxFC _ => 1
  | .sbcAbx _ => 1
  | .incAbx _ => 0
  | .isbAbx _ => 0

/-- The six opcodes of the five stable optional operations, which run only with `EXTRA_UNOFFICIAL`
(30_encoding.md R208). -/
def Instr.optional (i : Instr) : Bool :=
  i.mnemonic == .ANC || i.mnemonic == .ALR || i.mnemonic == .ARR || i.mnemonic == .SBX || i.mnemonic == .LAS

/-- The seven opcodes of the six unstable operations, which fault for every parameter value
(30_encoding.md R208, 46_undocumented.md section 4.2). -/
def Instr.unstable (i : Instr) : Bool :=
  i.mnemonic == .XAA || i.mnemonic == .LXA || i.mnemonic == .SHA || i.mnemonic == .SHX || i.mnemonic == .SHY
    || i.mnemonic == .TAS

/-- The opcode is an unimplemented slot under these parameters (30_encoding.md R208). -/
def Instr.isSlot (c : Params) (i : Instr) : Bool := i.unstable || (i.optional && !c.extraUnofficial)

/-- Byte `k` of a number whose bit 0 is the least significant bit of the first byte. -/
def byteOfNat (w k : Nat) : Byte := BitVec.ofNat 8 (w / 256 ^ k)

/-- The bytes of a table word: bits at and above `nbits` are zero, the first byte is bits 7..0, and three bytes (the
longest instruction) are laid out. -/
def tableWordBytes (nbits w : Nat) : List Byte :=
  [byteOfNat (w % 2 ^ nbits) 0, byteOfNat (w % 2 ^ nbits) 1, byteOfNat (w % 2 ^ nbits) 2]

/-- The instruction the decoder reads from a table word. -/
def decodeTableWord (nbits w : Nat) : Option Instr :=
  match decode (tableWordBytes nbits w) with
  | .ok (i, _) => some i
  | .error _ => none

end Sys2Proof
end

