-- ==== Sys2Proof/Machine/State.lean ====
section
/-!
DEFINITION. The state of the machine as plain data: every piece of state spec 10_state.md gives (R40 to R102), the
launch parameters (00_scope.md R10), the outcomes a step can stop with, and the state right after reset.
-/

namespace Sys2Proof.Machine

/-- The six flags of P. The break field (bits 5:4) is no storage cell (10_state.md R45, R47). -/
structure Flags where
  n : Bool
  v : Bool
  d : Bool
  i : Bool
  z : Bool
  c : Bool
  deriving DecidableEq, Repr

/-- The CPU registers (10_state.md R40 to R48). -/
structure Regs where
  /-- the accumulator (R40) -/
  a : Byte
  /-- index register X (R41) -/
  x : Byte
  /-- index register Y (R42) -/
  y : Byte
  /-- the stack pointer; it addresses 0x0100 | S (R43) -/
  s : Byte
  /-- the program counter (R44) -/
  pc : Addr
  /-- the status flags (R45) -/
  p : Flags
  deriving DecidableEq, Repr

/-- A memory: address and byte pairs, addresses strictly rising. A cell that is not listed holds no written byte, and
reads as the free value `Config.initMemory` (DESIGN CHOICE, log entry 2). -/
abbrev Memory := List Host.Cell

/-- The frame buffer: for each scanline drawn, the colour indices of its pixels, both lists strictly rising
(10_state.md R85; DESIGN CHOICE, log entry 14). -/
abbrev Frame := List (Nat × List (Nat × BitVec 6))

/-- The controller ports (10_state.md R62). `host` is the pair of button states the host supplies now, if it does
(63_mapper_and_ports.md R640; DESIGN CHOICE, log entry 4). -/
structure Pads where
  strobe : Bool
  shift1 : Byte
  shift2 : Byte
  host : Option (Byte × Byte)
  deriving DecidableEq, Repr

/-- An entry of the sprite list: the four OAM bytes and the two pattern bytes (10_state.md R83). -/
structure Sprite where
  y : Byte
  tile : Byte
  attr : Byte
  xpos : Byte
  lo : Byte
  hi : Byte
  deriving DecidableEq, Repr

/-- The PPU (10_state.md R70 to R86). -/
structure Ppu where
  /-- PPUCTRL (R70) -/
  ctrl : Byte
  /-- PPUMASK (R71) -/
  mask : Byte
  /-- PPUSTATUS bit 7 (R72) -/
  vblank : Bool
  /-- PPUSTATUS bit 6 (R72) -/
  sprite0Hit : Bool
  /-- PPUSTATUS bit 5 (R72) -/
  spriteOverflow : Bool
  /-- the OAM address register (R73) -/
  oamaddr : Byte
  /-- the current VRAM address (R74) -/
  v : BitVec 15
  /-- the temporary VRAM address (R74) -/
  t : BitVec 15
  /-- the fine-X scroll, 0 to 7 in an 8-bit field (R75) -/
  x : Byte
  /-- the write toggle (R75) -/
  w : Bool
  /-- the PPUDATA read buffer (R76) -/
  buffer : Byte
  /-- the next dot, 0 to 340 (R77) -/
  dot : Nat
  /-- the next dot's scanline, 0 to 261 (R77) -/
  scanline : Nat
  /-- the frame parity (R78) -/
  odd : Bool
  /-- the data-bus latch (R79) -/
  latch : Byte
  /-- the nametable latch (R81) -/
  bgNt : Byte
  /-- the attribute latch (R81) -/
  bgAt : BitVec 2
  /-- the low pattern-plane latch (R81) -/
  bgLo : Byte
  /-- the high pattern-plane latch (R81) -/
  bgHi : Byte
  /-- the pattern and attribute shift registers (R81) -/
  shPatLo : BitVec 16
  shPatHi : BitVec 16
  shAtLo : BitVec 16
  shAtHi : BitVec 16
  /-- primary OAM, 256 bytes (R82) -/
  oam : Memory
  /-- the sprite list of the coming scanline, at most 8 entries (R83) -/
  spr : List Sprite
  /-- OAM sprite 0 is in the list (R83) -/
  spr0OnLine : Bool
  /-- the nametable RAM, 2048 bytes (R84) -/
  vram : Memory
  /-- the palette RAM, 32 bytes (R84) -/
  palette : Memory
  /-- the frame buffer (R85) -/
  frame : Frame
  /-- the driver's vblank signal (R86) -/
  vblEvent : Bool
  deriving DecidableEq, Repr

/-- The length counter of a channel, with its pending load and halt (10_state.md R91 to R93; 62_apu.md R563 to
R565). -/
structure Length where
  enabled : Bool
  len : Byte
  halt : Bool
  pendingLen : Option Byte
  pendingHalt : Option Bool
  deriving DecidableEq, Repr

/-- The envelope of a channel: `env_const`, `env_vol`, `env_start`, `env_div`, `env_decay` (10_state.md R91). -/
structure Envelope where
  constant : Bool
  vol : BitVec 4
  start : Bool
  div : BitVec 4
  decay : BitVec 4
  deriving DecidableEq, Repr

/-- A pulse channel (10_state.md R91). -/
structure Pulse where
  lc : Length
  duty : BitVec 2
  seq : BitVec 3
  period : BitVec 11
  timer : BitVec 11
  env : Envelope
  swEn : Bool
  swPeriod : BitVec 3
  swNeg : Bool
  swShift : BitVec 3
  swReload : Bool
  swDiv : BitVec 3
  deriving DecidableEq, Repr

/-- The triangle channel (10_state.md R92). -/
structure Triangle where
  lc : Length
  control : Bool
  linReloadVal : BitVec 7
  lin : BitVec 7
  linReload : Bool
  period : BitVec 11
  timer : BitVec 11
  seq : BitVec 5
  deriving DecidableEq, Repr

/-- The noise channel (10_state.md R93). -/
structure Noise where
  lc : Length
  env : Envelope
  mode : Bool
  periodIndex : BitVec 4
  timer : BitVec 12
  lfsr : BitVec 15
  deriving DecidableEq, Repr

/-- The DMC channel (10_state.md R94). -/
structure Dmc where
  irqEn : Bool
  loop : Bool
  rateIndex : BitVec 4
  level : BitVec 7
  sampleAddrReg : Byte
  sampleLenReg : Byte
  curAddr : Addr
  bytesLeft : BitVec 12
  buffer : Byte
  bufferEmpty : Bool
  shift : Byte
  bitsLeft : BitVec 4
  silence : Bool
  timer : BitVec 9
  dmcIrq : Bool
  deriving DecidableEq, Repr

/-- The APU (10_state.md R90 to R95). `sample` is a rational number (DESIGN CHOICE, log entry 9). -/
structure Apu where
  fc : Nat
  fcMode : Bool
  irqInhibit : Bool
  frameIrq : Bool
  fcPending : Option (Byte × Nat)
  pulse1 : Pulse
  pulse2 : Pulse
  triangle : Triangle
  noise : Noise
  dmc : Dmc
  phase : Bool
  sample : Rat
  deriving DecidableEq, Repr

/-- The nametable-mirroring modes (10_state.md R100, 20_memory.md R171). -/
inductive Mirroring | horizontal | vertical | singleScreenLow | singleScreenHigh | fourScreen
  deriving DecidableEq, Repr

/-- The registers of the shift-register scheme (10_state.md R101, 63_mapper_and_ports.md R626). -/
structure Mmc1 where
  shift : BitVec 5
  count : Nat
  control : BitVec 5
  chr0 : BitVec 5
  chr1 : BitVec 5
  prgb : BitVec 5
  deriving DecidableEq, Repr

/-- The active scheme with its registers (10_state.md R101). -/
inductive Mapper
  | fixed
  | shiftRegister (r : Mmc1)
  | lowerBankSelect (bank : Byte)
  | upperBankSelect (bank : Byte)
  | coarseBankSelect (bank : BitVec 3) (screen : Bool)
  deriving DecidableEq, Repr

/-- The cartridge (10_state.md R100). Byte `i` of PRG page `k` is cell 0x4000 * k + i of `prg`, and byte `i` of CHR
page `k` is cell 0x2000 * k + i of `chr`. `chrRam` is present iff `nChr` = 0. -/
structure Cart where
  prg : Memory
  nPrg : Nat
  chr : Memory
  nChr : Nat
  chrRam : Memory
  mirroring : Mirroring
  mapperId : Nat
  mapper : Mapper
  deriving DecidableEq, Repr

/-- The model's own counters of free values: how many `OPEN_BUS` and `BUTTONS` draws were made (log entries 3, 4). -/
structure Draws where
  openBus : Nat
  buttons : Nat
  deriving DecidableEq, Repr

/-- The fault kinds of 60_exceptions.md R440. -/
inductive FaultKind
  /-- an unimplemented opcode slot was executed (46_undocumented.md R391) -/
  | unimplementedOpcode
  /-- a write through an unresolved reference: it exists and nothing raises it (60_exceptions.md R442) -/
  | nullWrite
  /-- load time: the header or the page counts are wrong (63_mapper_and_ports.md R620) -/
  | invalidHeader
  /-- load time: the mapper id names no scheme (63_mapper_and_ports.md R620) -/
  | unsupportedMapper
  deriving DecidableEq, Repr

/-- The state of the whole core. -/
structure State where
  /-- the launch parameters; no step changes them (00_scope.md R10) -/
  cfg : Params
  /-- the CPU registers (10_state.md R40 to R48) -/
  regs : Regs
  /-- the CPU cycle counter (R50) -/
  cycles : Nat
  /-- the cycles of the current step (R54) -/
  delta : Nat
  /-- a latched NMI request (R51) -/
  nmiPending : Bool
  /-- the CPU has executed a JAM (R53) -/
  trapped : Bool
  /-- the I value the next IRQ check uses (R55) -/
  iPoll : Bool
  /-- the last completed instruction was CLI (R55) -/
  prevCli : Bool
  /-- the PAL cycle counter, 0 to 4 (R56) -/
  palPhase : Nat
  /-- the DMC stall cycles still owed (R57) -/
  stall : Nat
  /-- a write to 0x4014 whose DMA has not run (R58) -/
  oamDmaPage : Option Byte
  /-- the fault that ended the run (R59) -/
  fault : Option FaultKind
  /-- internal RAM, 2048 bytes (R60) -/
  ram : Memory
  /-- expansion RAM, 8160 bytes (R61) -/
  exram : Memory
  /-- save RAM, 8192 bytes (R61) -/
  sram : Memory
  /-- the flat 64 KiB of the test-vector mode (20_memory.md R145) -/
  flat : Memory
  /-- the controller ports (R62) -/
  pads : Pads
  /-- the PPU (R70 to R86) -/
  ppu : Ppu
  /-- the APU (R90 to R95) -/
  apu : Apu
  /-- the cartridge and its mapper (R100 to R102) -/
  cart : Cart
  /-- the free-value counters -/
  draws : Draws
  /-- the model's own mark that a stall never ends, where the spec gives no next state (DESIGN CHOICE, log entry 6) -/
  hung : Bool
  deriving DecidableEq, Repr

/-- Why a step stops. Each reason carries the final state, which the spec says stays (00_scope.md R17; DESIGN CHOICE,
log entry 7). -/
inductive Fault
  /-- Raised by the meanings of the unimplemented slots (46_undocumented.md R391, 60_exceptions.md R440): the state
  after the opcode fetch with `fault` set. Safe: the spec orders this fault. -/
  | unimplementedOpcode (final : State)
  /-- Raised by `step` on a core whose `fault` is set: no step is taken (00_scope.md R17, 10_state.md R59); the state
  is unchanged. Safe: the spec orders that no step is taken. -/
  | alreadyFaulted (kind : FaultKind) (final : State)
  /-- Raised by `step` where `DrainStall` never ends (20_memory.md R133): a looping sample whose every fetch adds at
  least the cycles until the next one. The spec's step gives no state then; `final` is only where the model stopped
  counting (DEDUCED, log entry 6). Safe: no next state is claimed. -/
  | endlessStall (final : State)
  deriving DecidableEq, Repr

/-- Why an instruction is refused. -/
inductive Refusal
  /-- Raised by an arm of `exec` whose instruction has no meaning yet. Safe: nothing is claimed of it. No arm of this
  model raises it. -/
  | notModelled (mnemonic : String)
  deriving DecidableEq, Repr

/-- A length counter at power-on (10_state.md R91 to R93). -/
def Length.reset : Length :=
  { enabled := false, len := 0, halt := false, pendingLen := none, pendingHalt := none }

/-- An envelope at power-on (10_state.md R91). -/
def Envelope.reset : Envelope := { constant := false, vol := 0, start := false, div := 0, decay := 0 }

/-- A pulse channel at power-on (10_state.md R91). -/
def Pulse.reset : Pulse :=
  { lc := Length.reset, duty := 0, seq := 0, period := 0, timer := 0, env := Envelope.reset, swEn := false
    swPeriod := 0, swNeg := false, swShift := 0, swReload := false, swDiv := 0 }

/-- The triangle channel at power-on (10_state.md R92). -/
def Triangle.reset : Triangle :=
  { lc := Length.reset, control := false, linReloadVal := 0, lin := 0, linReload := false, period := 0, timer := 0
    seq := 0 }

/-- The noise channel at power-on (10_state.md R93). -/
def Noise.reset : Noise :=
  { lc := Length.reset, env := Envelope.reset, mode := false, periodIndex := 0, timer := 0, lfsr := 1 }

/-- The DMC channel at power-on (10_state.md R94). -/
def Dmc.reset : Dmc :=
  { irqEn := false, loop := false, rateIndex := 0, level := 0, sampleAddrReg := 0, sampleLenReg := 0
    curAddr := 0xC000#16, bytesLeft := 0, buffer := 0, bufferEmpty := true, shift := 0, bitsLeft := 8
    silence := true, timer := 0, dmcIrq := false }

/-- The APU at power-on, before the reset cycles (10_state.md R90 to R95). -/
def Apu.reset : Apu :=
  { fc := 0, fcMode := false, irqInhibit := false, frameIrq := false, fcPending := none, pulse1 := Pulse.reset
    pulse2 := Pulse.reset, triangle := Triangle.reset, noise := Noise.reset, dmc := Dmc.reset, phase := false
    sample := 0 }

/-- The PPU at power-on, before the reset cycles (10_state.md R70 to R86). -/
def Ppu.reset : Ppu :=
  { ctrl := 0, mask := 0, vblank := false, sprite0Hit := false, spriteOverflow := false, oamaddr := 0, v := 0, t := 0
    x := 0, w := false, buffer := 0, dot := 0, scanline := 0, odd := false, latch := 0, bgNt := 0, bgAt := 0
    bgLo := 0, bgHi := 0, shPatLo := 0, shPatHi := 0, shAtLo := 0, shAtHi := 0, oam := [], spr := []
    spr0OnLine := false, vram := [], palette := [], frame := [], vblEvent := false }

/-- The flags of P = 0x24 (10_state.md R45). -/
def Flags.reset : Flags := { n := false, v := false, d := false, i := true, z := false, c := false }

/-- The cartridge of `State.reset`: the fixed scheme, one PRG page and no CHR page, none of whose bytes is listed, so
that every byte of it is free (DESIGN CHOICE, log entry 1). -/
def Cart.reset : Cart :=
  { prg := [], nPrg := 1, chr := [], nChr := 0, chrRam := [], mirroring := .horizontal, mapperId := 0
    mapper := .fixed }

/-- The colour the seven reset cycles draw: palette entry 0 (61_ppu.md R510). -/
def resetColour : BitVec 6 := (Config.initMemory .palette 0).setWidth 6

/-- The state right after power-on: the reset values of 10_state.md and what the seven reset cycles of
70_reset_and_hazards.md R661 make of them (R662): 21 dots and 7 APU ticks. The launch is the conformance setup,
START_PC = 0xC000 (DESIGN CHOICE, log entry 1). Test `test_power_on_is_reset` shows that it is what `powerOn`
computes. -/
def State.reset : State where
  cfg := Params.conformance
  regs := { a := 0, x := 0, y := 0, s := 0xFD#8, pc := 0xC000#16, p := Flags.reset }
  cycles := 7
  delta := 7
  nmiPending := false
  trapped := false
  iPoll := true
  prevCli := false
  palPhase := 0
  stall := 0
  oamDmaPage := none
  fault := none
  ram := []
  exram := []
  sram := []
  flat := []
  pads := { strobe := false, shift1 := 0, shift2 := 0, host := none }
  ppu := { Ppu.reset with
    dot := 21
    frame := [(0, [(0, resetColour), (1, resetColour), (2, resetColour), (3, resetColour), (4, resetColour),
      (5, resetColour), (6, resetColour), (7, resetColour), (8, resetColour), (9, resetColour), (10, resetColour),
      (11, resetColour), (12, resetColour), (13, resetColour), (14, resetColour), (15, resetColour),
      (16, resetColour), (17, resetColour), (18, resetColour), (19, resetColour)])] }
  apu := { Apu.reset with
    fc := 7
    phase := true
    pulse1 := { Pulse.reset with seq := 4 }
    pulse2 := { Pulse.reset with seq := 4 }
    noise := { Noise.reset with timer := 1, lfsr := 0x2000#15 }
    dmc := { Dmc.reset with timer := 421, bitsLeft := 7 }
    sample := mkRat 12765 100000 }
  cart := Cart.reset
  draws := { openBus := 0, buttons := 0 }
  hung := false

end Sys2Proof.Machine
end

