-- ==== Sys2Proof/Machine/Memory.lean ====
section
/-!
DEFINITION. Sorted lists of key and value pairs, and memories over them: the one home of reading and writing a byte.
-/

namespace Sys2Proof.Machine

/-- The value listed under a key of a list whose keys rise. -/
def sortedGet {α : Type} : List (Nat × α) → Nat → Option α
  | [], _ => none
  | (k, v) :: l, a => if a < k then none else if a = k then some v else sortedGet l a

/-- List a value under a key, in its place, instead of what stood there. -/
def sortedPut {α : Type} : List (Nat × α) → Nat → α → List (Nat × α)
  | [], a, v => [(a, v)]
  | (k, w) :: l, a, v =>
    if a < k then (a, v) :: (k, w) :: l else if a = k then (a, v) :: l else (k, w) :: sortedPut l a v

/-- Every key of the list is above `b`, and the keys rise strictly. -/
def risingAbove {α : Type} : Nat → List (Nat × α) → Bool
  | _, [] => true
  | b, (k, _) :: l => decide (b < k) && risingAbove k l

/-- The keys rise strictly: the canonical form. -/
def rising {α : Type} : List (Nat × α) → Bool
  | [] => true
  | (k, _) :: l => risingAbove k l

/-- Every key is below the size. -/
def keysBelow {α : Type} (size : Nat) (l : List (Nat × α)) : Bool := l.all fun p => decide (p.1 < size)

/-- The byte written at a cell, if one was. -/
def Memory.read (m : Memory) (a : Nat) : Option Byte := sortedGet m a

/-- Write a byte. -/
def Memory.write (m : Memory) (a : Nat) (v : Byte) : Memory := sortedPut m a v

/-- What an access reads: the byte written there, else the free value of `INIT_MEMORY` (00_scope.md R10; DESIGN
CHOICE, log entry 2). This is the one definition of what an unlisted cell reads as. -/
def Memory.byte (kind : MemKind) (m : Memory) (a : Nat) : Byte :=
  match m.read a with
  | some v => v
  | none => Config.initMemory kind a

/-- The canonical form of a memory of `size` cells: addresses strictly rising and in range. An unlisted cell has no
written byte, so no entry can equal it. -/
def Memory.wf (size : Nat) (m : Memory) : Bool := rising m && keysBelow size m

/-- The sizes of the physical memories (10_state.md R60, R61, R82, R84, R100; 20_memory.md R145), for a cartridge of
`nPrg` PRG and `nChr` CHR pages. -/
def memSize (nPrg nChr : Nat) : MemKind → Nat
  | .ram => 2048
  | .exram => 8160
  | .sram => 8192
  | .flat => 65536
  | .prg => 0x4000 * nPrg
  | .chr => 0x2000 * nChr
  | .chrRam => 8192
  | .vram => 2048
  | .palette => 32
  | .oam => 256

end Sys2Proof.Machine
end

