-- ==== Sys2Proof/Machine/Apu.lean ====
section
/-!
DEFINITION. The APU without its memory reader: register writes (62_apu.md R540 to R549), the status register (R561,
R562), the frame sequencer (R550 to R556), the length counters (R560 to R565), the channels (R570 to R593), the
period tables (R600) and the mixer (R605, R606). The DMC reader, which uses the bus, is `dmcReader` in Ops.lean.
-/

namespace Sys2Proof.Machine

/-- An entry of a table, the last one for an index beyond it. -/
def tableAt : List Nat → Nat → Nat
  | [], _ => 0
  | [x], _ => x
  | x :: y :: l, n => if n = 0 then x else tableAt (y :: l) (n - 1)

/-! ### Tables -/

/-- `LEN[0..31]` (62_apu.md R560). -/
def lenTable : List Nat :=
  [10, 254, 20, 2, 40, 4, 80, 6, 160, 8, 60, 10, 14, 12, 26, 14,
   12, 16, 24, 18, 48, 20, 96, 22, 192, 24, 72, 26, 16, 28, 32, 30]

/-- The length a length-load byte selects: `LEN[val[7:3]]` (62_apu.md R543). -/
def lenLoad (val : Byte) : Byte := BitVec.ofNat 8 (tableAt lenTable (val.toNat / 8))

/-- A row of the duty table (62_apu.md R570). -/
def dutyRow (duty : Nat) : List Nat :=
  match duty with
  | 0 => [0, 1, 0, 0, 0, 0, 0, 0]
  | 1 => [0, 1, 1, 0, 0, 0, 0, 0]
  | 2 => [0, 1, 1, 1, 1, 0, 0, 0]
  | _ => [1, 0, 0, 1, 1, 1, 1, 1]

/-- `TRI[seq]`: 15 down to 0, then 0 up to 15 (62_apu.md R582). -/
def triWave (seq : Nat) : Nat := if seq < 16 then 15 - seq else seq - 16

/-- The noise periods, in CPU cycles (62_apu.md R600). -/
def noisePeriods : Region → List Nat
  | .ntsc => [4, 8, 16, 32, 64, 96, 128, 160, 202, 254, 380, 508, 762, 1016, 2034, 4068]
  | .pal => [4, 8, 14, 30, 60, 88, 118, 148, 188, 236, 354, 472, 708, 944, 1890, 3778]

/-- The DMC rates, in CPU cycles (62_apu.md R600). -/
def dmcRates : Region → List Nat
  | .ntsc => [428, 380, 340, 320, 286, 254, 226, 214, 190, 160, 142, 128, 106, 84, 72, 54]
  | .pal => [398, 354, 316, 298, 276, 236, 210, 198, 176, 148, 132, 118, 98, 78, 66, 50]

/-! ### Length counters -/

/-- The length clock, with whether it decremented the counter (62_apu.md R563). -/
def Length.clock (l : Length) : Length × Bool :=
  if l.len ≠ 0 ∧ l.halt = false then ({ l with len := l.len - 1 }, true) else (l, false)

/-- The commit at the end of a tick: the halt first, then the length load, dropped if the channel is disabled or was
decremented in this tick (62_apu.md R564, R565). -/
def Length.commit (decremented : Bool) (l : Length) : Length :=
  { l with
    halt := l.pendingHalt.getD l.halt
    pendingHalt := none
    len :=
      match l.pendingLen with
      | some n => if l.enabled && !decremented then n else l.len
      | none => l.len
    pendingLen := none }

/-- The channel-enable bit of a 0x4015 write (62_apu.md R561). -/
def Length.enable (on : Bool) (l : Length) : Length :=
  if on then { l with enabled := true } else { l with enabled := false, len := 0, pendingLen := none }

/-- A halt write, pending until the end of the tick (62_apu.md R541). -/
def Length.setHalt (b : Bool) (l : Length) : Length := { l with pendingHalt := some b }

/-- A length-load write, pending until the end of the tick (62_apu.md R543). -/
def Length.load (val : Byte) (l : Length) : Length := { l with pendingLen := some (lenLoad val) }

/-! ### Envelopes -/

/-- The envelope clock; `halt` is the channel's committed halt flag, the loop flag (62_apu.md R571). -/
def Envelope.clock (halt : Bool) (e : Envelope) : Envelope :=
  if e.start then { e with start := false, decay := 15, div := e.vol }
  else if e.div = 0 then
    { e with
      div := e.vol
      decay := if e.decay ≠ 0 then e.decay - 1 else if halt then 15 else e.decay }
  else { e with div := e.div - 1 }

/-- The volume (62_apu.md R571). -/
def Envelope.volume (e : Envelope) : Nat := if e.constant then e.vol.toNat else e.decay.toNat

/-- The envelope bits of a control write: bit 4 constant, bits 3:0 volume (62_apu.md R541, R547). -/
def Envelope.control (val : Byte) (e : Envelope) : Envelope :=
  { e with constant := val.getLsbD 4, vol := val.extractLsb' 0 4 }

/-! ### Pulse channels -/

/-- `period[7:0] <- val` (62_apu.md R543). -/
def setPeriodLow (val : Byte) (p : BitVec 11) : BitVec 11 := p.extractLsb' 8 3 ++ val

/-- `period[10:8] <- val[2:0]` (62_apu.md R543). -/
def setPeriodHigh (val : Byte) (p : BitVec 11) : BitVec 11 := val.extractLsb' 0 3 ++ p.extractLsb' 0 8

/-- A write to the pulse register `r` = 0 to 3 (62_apu.md R541 to R543). -/
def Pulse.write (r : Nat) (val : Byte) (p : Pulse) : Pulse :=
  match r with
  | 0 => { p with duty := val.extractLsb' 6 2, lc := p.lc.setHalt (val.getLsbD 5), env := p.env.control val }
  | 1 =>
    { p with
      swEn := val.getLsbD 7
      swPeriod := val.extractLsb' 4 3
      swNeg := val.getLsbD 3
      swShift := val.extractLsb' 0 3
      swReload := true }
  | 2 => { p with period := setPeriodLow val p.period }
  | _ =>
    { p with
      period := setPeriodHigh val p.period
      lc := p.lc.load val
      seq := 0
      env := { p.env with start := true } }

/-- The sweep target, an integer; `one` says the channel negates in one's complement (pulse 1) (62_apu.md R572). -/
def Pulse.target (one : Bool) (p : Pulse) : Int :=
  let c : Int := (p.period >>> p.swShift.toNat).toNat
  if p.swNeg then (if one then (p.period.toNat : Int) - c - 1 else (p.period.toNat : Int) - c)
  else (p.period.toNat : Int) + c

/-- `Muted(p)` (62_apu.md R572). -/
def Pulse.muted (one : Bool) (p : Pulse) : Bool := decide (p.period.toNat < 8) || decide (p.target one > 0x7FF)

/-- The sweep clock (62_apu.md R573). -/
def Pulse.clockSweep (one : Bool) (p : Pulse) : Pulse :=
  { p with
    period :=
      if p.swDiv = 0 ∧ p.swEn = true ∧ p.swShift ≠ 0 ∧ p.muted one = false then BitVec.ofInt 11 (p.target one)
      else p.period
    swDiv := if p.swDiv = 0 ∨ p.swReload = true then p.swPeriod else p.swDiv - 1
    swReload := if p.swDiv = 0 ∨ p.swReload = true then false else p.swReload }

/-- The timer and duty sequencer (62_apu.md R570). -/
def Pulse.clockTimer (p : Pulse) : Pulse :=
  if p.timer = 0 then { p with timer := p.period, seq := p.seq + 1 } else { p with timer := p.timer - 1 }

/-- The pulse output (62_apu.md R574). -/
def Pulse.output (one : Bool) (p : Pulse) : Nat :=
  if p.lc.len = 0 ∨ p.muted one = true ∨ tableAt (dutyRow p.duty.toNat) p.seq.toNat = 0 then 0 else p.env.volume

/-! ### Triangle channel -/

/-- A write to 0x4008, 0x400A or 0x400B, given as `r` = 0, 2, 3; `r` = 1 (0x4009) changes nothing (62_apu.md R544,
R548). -/
def Triangle.write (r : Nat) (val : Byte) (t : Triangle) : Triangle :=
  match r with
  | 0 =>
    { t with control := val.getLsbD 7, lc := t.lc.setHalt (val.getLsbD 7), linReloadVal := val.extractLsb' 0 7 }
  | 1 => t
  | 2 => { t with period := setPeriodLow val t.period }
  | _ => { t with period := setPeriodHigh val t.period, lc := t.lc.load val, linReload := true }

/-- The triangle timer (62_apu.md R580). -/
def Triangle.clockTimer (t : Triangle) : Triangle :=
  if t.timer = 0 then
    { t with timer := t.period, seq := if t.lc.len ≠ 0 ∧ t.lin ≠ 0 then t.seq + 1 else t.seq }
  else { t with timer := t.timer - 1 }

/-- The linear counter (62_apu.md R581). -/
def Triangle.clockLinear (t : Triangle) : Triangle :=
  { t with
    lin := if t.linReload then t.linReloadVal else if t.lin ≠ 0 then t.lin - 1 else t.lin
    linReload := if t.control then t.linReload else false }

/-- The triangle output (62_apu.md R582). -/
def Triangle.output (t : Triangle) : Nat := triWave t.seq.toNat

/-! ### Noise channel -/

/-- A write to 0x400C, 0x400E or 0x400F, given as `r` = 0, 2, 3; `r` = 1 (0x400D) changes nothing (62_apu.md R547,
R548). -/
def Noise.write (r : Nat) (val : Byte) (n : Noise) : Noise :=
  match r with
  | 0 => { n with lc := n.lc.setHalt (val.getLsbD 5), env := n.env.control val }
  | 1 => n
  | 2 => { n with mode := val.getLsbD 7, periodIndex := val.extractLsb' 0 4 }
  | _ => { n with lc := n.lc.load val, env := { n.env with start := true } }

/-- The feedback step of the shift register (62_apu.md R585). -/
def lfsrStep (mode : Bool) (l : BitVec 15) : BitVec 15 :=
  BitVec.ofBool (l.getLsbD 0 ^^ (if mode then l.getLsbD 6 else l.getLsbD 1)) ++ l.extractLsb' 1 14

/-- The noise timer (62_apu.md R585). -/
def Noise.clockTimer (region : Region) (n : Noise) : Noise :=
  if n.timer = 0 then
    { n with
      timer := BitVec.ofNat 12 (tableAt (noisePeriods region) n.periodIndex.toNat - 1)
      lfsr := lfsrStep n.mode n.lfsr }
  else { n with timer := n.timer - 1 }

/-- The noise output (62_apu.md R586). -/
def Noise.output (n : Noise) : Nat := if n.lfsr.getLsbD 0 = true ∨ n.lc.len = 0 then 0 else n.env.volume

/-! ### DMC -/

/-- A write to 0x4010 + `r`, `r` = 0 to 3 (62_apu.md R545, R546). -/
def Dmc.write (r : Nat) (val : Byte) (d : Dmc) : Dmc :=
  match r with
  | 0 =>
    { d with
      irqEn := val.getLsbD 7
      loop := val.getLsbD 6
      rateIndex := val.extractLsb' 0 4
      dmcIrq := if val.getLsbD 7 then d.dmcIrq else false }
  | 1 => { d with level := val.extractLsb' 0 7 }
  | 2 => { d with sampleAddrReg := val }
  | _ => { d with sampleLenReg := val }

/-- `DmcRestart()` (62_apu.md R593). -/
def Dmc.restart (d : Dmc) : Dmc :=
  { d with
    curAddr := BitVec.ofNat 16 (0xC000 + 64 * d.sampleAddrReg.toNat)
    bytesLeft := BitVec.ofNat 12 (16 * d.sampleLenReg.toNat + 1) }

/-- The DMC bit of a 0x4015 write, which also clears the DMC interrupt (62_apu.md R561). -/
def Dmc.enable (on : Bool) (d : Dmc) : Dmc :=
  let d1 := if on then (if d.bytesLeft = 0 then d.restart else d) else { d with bytesLeft := 0 }
  { d1 with dmcIrq := false }

/-- The output level after one output bit (62_apu.md R590). -/
def Dmc.nextLevel (d : Dmc) : BitVec 7 :=
  if d.silence then d.level
  else if d.shift.getLsbD 0 then (if d.level.toNat ≤ 125 then d.level + 2 else d.level)
  else (if 2 ≤ d.level.toNat then d.level - 2 else d.level)

/-- The timer and output unit (62_apu.md R590). -/
def Dmc.clockTimer (region : Region) (d : Dmc) : Dmc :=
  if d.timer = 0 then
    let d1 := { d with
      timer := BitVec.ofNat 9 (tableAt (dmcRates region) d.rateIndex.toNat - 1)
      level := d.nextLevel
      shift := d.shift >>> 1
      bitsLeft := d.bitsLeft - 1 }
    if d1.bitsLeft = 0 then
      if d1.bufferEmpty then { d1 with bitsLeft := 8, silence := true }
      else { d1 with bitsLeft := 8, silence := false, shift := d1.buffer, bufferEmpty := true }
    else d1
  else { d with timer := d.timer - 1 }

/-- The reader wants a byte (62_apu.md R591). -/
def Dmc.wantsByte (d : Dmc) : Bool := d.bufferEmpty && d.bytesLeft != 0

/-- `SampleEnd()` (62_apu.md R592). -/
def Dmc.sampleEnd (d : Dmc) : Dmc :=
  if d.loop then d.restart else if d.irqEn then { d with dmcIrq := true } else d

/-- The reader takes the byte it has read (62_apu.md R591). -/
def Dmc.take (b : Byte) (d : Dmc) : Dmc :=
  let d1 := { d with
    buffer := b
    bufferEmpty := false
    curAddr := if d.curAddr = 0xFFFF#16 then 0x8000#16 else d.curAddr + 1
    bytesLeft := d.bytesLeft - 1 }
  if d1.bytesLeft = 0 then d1.sampleEnd else d1

/-! ### The frame sequencer -/

/-- Which length counters a tick decremented: the scratch `dec[ch]` of 62_apu.md R550. -/
structure Decremented where
  pulse1 : Bool
  pulse2 : Bool
  triangle : Bool
  noise : Bool
  deriving DecidableEq, Repr

/-- No counter decremented. -/
def Decremented.nothing : Decremented := { pulse1 := false, pulse2 := false, triangle := false, noise := false }

/-- `QuarterClock()` (62_apu.md R554). -/
def Apu.quarterClock (a : Apu) : Apu :=
  { a with
    pulse1 := { a.pulse1 with env := a.pulse1.env.clock a.pulse1.lc.halt }
    pulse2 := { a.pulse2 with env := a.pulse2.env.clock a.pulse2.lc.halt }
    noise := { a.noise with env := a.noise.env.clock a.noise.lc.halt }
    triangle := a.triangle.clockLinear }

/-- `HalfClock()` (62_apu.md R555). -/
def Apu.halfClock (a : Apu) : Apu :=
  { a with
    pulse1 := { a.pulse1 with lc := a.pulse1.lc.clock.1 }.clockSweep true
    pulse2 := { a.pulse2 with lc := a.pulse2.lc.clock.1 }.clockSweep false
    triangle := { a.triangle with lc := a.triangle.lc.clock.1 }
    noise := { a.noise with lc := a.noise.lc.clock.1 } }

/-- The counters a half-frame clock of this APU decrements (62_apu.md R563). -/
def Apu.halfDecrements (a : Apu) : Decremented :=
  { pulse1 := a.pulse1.lc.clock.2, pulse2 := a.pulse2.lc.clock.2, triangle := a.triangle.lc.clock.2
    noise := a.noise.lc.clock.2 }

/-- What the sequencer does in one tick (62_apu.md R551, R552). -/
inductive SeqEvent
  | none
  | quarter
  | quarterHalf
  deriving DecidableEq, Repr

/-- The clocks of an event, with the counters decremented (62_apu.md R554, R555). -/
def Apu.clockEvent (a : Apu) : SeqEvent → Apu × Decremented
  | .none => (a, Decremented.nothing)
  | .quarter => (a.quarterClock, Decremented.nothing)
  | .quarterHalf => (a.quarterClock.halfClock, a.quarterClock.halfDecrements)

/-- The event of `FrameStep()` at the counter value `fc` (62_apu.md R552). -/
def frameEvent (o : FcOffsets) (fc : Nat) : SeqEvent :=
  if fc = o.o1 then .quarter
  else if fc = o.o2 then .quarterHalf
  else if fc = o.o3 then .quarter
  else if fc = o.o4 then .quarterHalf
  else .none

/-- The offsets of the current mode (62_apu.md R552). -/
def Apu.offsets (cfg : Params) (a : Apu) : FcOffsets := if a.fcMode then cfg.fcOffsets5 else cfg.fcOffsets4

/-- `fc <- fc + 1; FrameStep()`, with the frame interrupt at the last 4-step offset (62_apu.md R550, R552, R553). -/
def Apu.frameStep (cfg : Params) (a0 : Apu) : Apu × Decremented :=
  let a := { a0 with fc := a0.fc + 1 }
  let o := a.offsets cfg
  let r := a.clockEvent (frameEvent o a.fc)
  if a.fc = o.o4 then
    ({ r.1 with fc := 0, frameIrq := a.frameIrq || (!a.fcMode && !a.irqInhibit) }, r.2)
  else r

/-- `FrameCounterDelay()` and, if it did not reset the sequencer, the frame step (62_apu.md R550, R551). -/
def Apu.sequencer (cfg : Params) (a : Apu) : Apu × Decremented :=
  match a.fcPending with
  | some (val, k + 1) => { a with fcPending := some (val, k) }.frameStep cfg
  | some (val, 0) =>
    let a1 := { a with fcPending := none, fcMode := val.getLsbD 7, fc := 0 }
    a1.clockEvent (if val.getLsbD 7 then .quarterHalf else .none)
  | none => a.frameStep cfg

/-- `Timers()` (62_apu.md R570, R580, R585, R590). -/
def Apu.timers (region : Region) (a : Apu) : Apu :=
  { a with
    pulse1 := if a.phase then a.pulse1.clockTimer else a.pulse1
    pulse2 := if a.phase then a.pulse2.clockTimer else a.pulse2
    triangle := a.triangle.clockTimer
    noise := a.noise.clockTimer region
    dmc := a.dmc.clockTimer region }

/-- The part of `ApuTick()` before the DMC reader: phase, sequencer, timers (62_apu.md R550). -/
def Apu.tickHead (cfg : Params) (a : Apu) : Apu × Decremented :=
  let r := { a with phase := !a.phase }.sequencer cfg
  (r.1.timers cfg.region, r.2)

/-- The weighted sum of a linear `MIXER` (62_apu.md R606). -/
def linearMix (w : MixerWeights) (p1 p2 t n d : Nat) : Rat :=
  mkRat (w.pulse1 * p1 + w.pulse2 * p2 + w.triangle * t + w.noise * n + w.dmc * d : Nat) 100000

/-- `MIXER` of the channel outputs (62_apu.md R605, R606). -/
def Apu.mix (m : Mixer) (a : Apu) : Rat :=
  match m with
  | .linear w =>
    linearMix w (a.pulse1.output true) (a.pulse2.output false) a.triangle.output a.noise.output a.dmc.level.toNat
  | .other =>
    Config.mixer (a.pulse1.output true) (a.pulse2.output false) a.triangle.output a.noise.output a.dmc.level.toNat

/-- `Commit()` (62_apu.md R564, R565). -/
def Apu.commit (d : Decremented) (a : Apu) : Apu :=
  { a with
    pulse1 := { a.pulse1 with lc := a.pulse1.lc.commit d.pulse1 }
    pulse2 := { a.pulse2 with lc := a.pulse2.lc.commit d.pulse2 }
    triangle := { a.triangle with lc := a.triangle.lc.commit d.triangle }
    noise := { a.noise with lc := a.noise.lc.commit d.noise } }

/-- The part of `ApuTick()` after the DMC reader: commit, then the sample (62_apu.md R550). -/
def Apu.tickTail (cfg : Params) (d : Decremented) (a : Apu) : Apu :=
  let a1 := a.commit d
  { a1 with sample := a1.mix cfg.mixer }

/-! ### Registers -/

/-- `ApuWrite(addr, val)` for the address 0x4000 + `r`, `r` = 0 to 0x13 (62_apu.md R540, R548). -/
def Apu.write (r : Nat) (val : Byte) (a : Apu) : Apu :=
  match r / 4 with
  | 0 => { a with pulse1 := a.pulse1.write (r % 4) val }
  | 1 => { a with pulse2 := a.pulse2.write (r % 4) val }
  | 2 => { a with triangle := a.triangle.write (r % 4) val }
  | 3 => { a with noise := a.noise.write (r % 4) val }
  | _ => { a with dmc := a.dmc.write (r % 4) val }

/-- `ApuStatusWrite(val)` (62_apu.md R561). -/
def Apu.statusWrite (val : Byte) (a : Apu) : Apu :=
  { a with
    pulse1 := { a.pulse1 with lc := a.pulse1.lc.enable (val.getLsbD 0) }
    pulse2 := { a.pulse2 with lc := a.pulse2.lc.enable (val.getLsbD 1) }
    triangle := { a.triangle with lc := a.triangle.lc.enable (val.getLsbD 2) }
    noise := { a.noise with lc := a.noise.lc.enable (val.getLsbD 3) }
    dmc := a.dmc.enable (val.getLsbD 4) }

/-- The byte `ApuStatusRead()` returns, with bit 5 from an open-bus byte (62_apu.md R562). -/
def Apu.statusByte (ob : Byte) (a : Apu) : Byte :=
  BitVec.ofBool a.dmc.dmcIrq ++ BitVec.ofBool a.frameIrq ++ BitVec.ofBool (ob.getLsbD 5)
    ++ BitVec.ofBool (a.dmc.bytesLeft != 0) ++ BitVec.ofBool (a.noise.lc.len != 0)
    ++ BitVec.ofBool (a.triangle.lc.len != 0) ++ BitVec.ofBool (a.pulse2.lc.len != 0)
    ++ BitVec.ofBool (a.pulse1.lc.len != 0)

/-- `ApuFrameCounterWrite(val)` in the cycle of number `cycles` (62_apu.md R549). -/
def Apu.frameCounterWrite (cycles : Nat) (val : Byte) (a : Apu) : Apu :=
  { a with
    irqInhibit := val.getLsbD 6
    frameIrq := if val.getLsbD 6 then false else a.frameIrq
    fcPending := some (val, if cycles % 2 = 0 then 3 else 4) }

end Sys2Proof.Machine
end

