-- ==== Sys2Proof/Machine/Mapper.lean ====
section
/-!
DEFINITION. Cartridge bank selection: the windows of the five schemes, their register writes, the effective
mirroring, and the pattern-table hooks (63_mapper_and_ports.md R621 to R634). The windows are functions of the
registers, not state (R624).
-/

namespace Sys2Proof.Machine

/-- The scheme's registers at their reset values (10_state.md R101; `Initialize`, 63_mapper_and_ports.md R624). -/
def Mapper.initial : Scheme → Mapper
  | .fixed => .fixed
  | .shiftRegister => .shiftRegister { shift := 0, count := 0, control := 0x0C#5, chr0 := 0, chr1 := 0, prgb := 0 }
  | .lowerBankSelect => .lowerBankSelect 0
  | .upperBankSelect => .upperBankSelect 0
  | .coarseBankSelect => .coarseBankSelect 0 false

/-- The PRG mode field control[3:2] of MMC1 (63_mapper_and_ports.md R626). -/
def Mmc1.prgMode (r : Mmc1) : Nat := r.control.toNat / 4 % 4

/-- The bank number prgb[3:0] of MMC1 (63_mapper_and_ports.md R627). -/
def Mmc1.prgBank (r : Mmc1) : Nat := r.prgb.toNat % 16

/-- The PRG page in the lower window 0x8000-0xBFFF (63_mapper_and_ports.md R625, R627, R630 to R633). -/
def Mapper.lowerPage (nPrg : Nat) : Mapper → Nat
  | .fixed => 0
  | .shiftRegister r =>
    match r.prgMode with
    | 2 => 0
    | 3 => r.prgBank % nPrg
    | _ => (2 * (r.prgBank / 2)) % nPrg
  | .lowerBankSelect bank => bank.toNat % nPrg
  | .upperBankSelect _ => 0
  | .coarseBankSelect bank _ => (2 * bank.toNat) % nPrg

/-- The PRG page in the upper window 0xC000-0xFFFF (63_mapper_and_ports.md R625, R627, R630 to R633). -/
def Mapper.upperPage (nPrg : Nat) : Mapper → Nat
  | .fixed => nPrg - 1
  | .shiftRegister r =>
    match r.prgMode with
    | 2 => r.prgBank % nPrg
    | 3 => nPrg - 1
    | _ => (2 * (r.prgBank / 2) + 1) % nPrg
  | .lowerBankSelect _ => nPrg - 1
  | .upperBankSelect bank => bank.toNat % nPrg
  | .coarseBankSelect bank _ => (2 * bank.toNat + 1) % nPrg

/-- `PrgPage(addr)` (63_mapper_and_ports.md R621). -/
def Cart.prgPage (c : Cart) (a : Nat) : Nat :=
  if a < 0xC000 then c.mapper.lowerPage c.nPrg else c.mapper.upperPage c.nPrg

/-- The cell of `prg` behind a CPU address of 0x8000-0xFFFF (63_mapper_and_ports.md R621). -/
def Cart.prgCell (c : Cart) (a : Nat) : Nat := 0x4000 * c.prgPage a + a % 0x4000

/-- The byte at a CPU address of 0x8000-0xFFFF (63_mapper_and_ports.md R621). -/
def Cart.prgByte (c : Cart) (a : Nat) : Byte := Memory.byte .prg c.prg (c.prgCell a)

/-- One write to the MMC1 serial port (63_mapper_and_ports.md R626). -/
def Mmc1.write (order : BitOrder) (addr : Addr) (val : Byte) (r : Mmc1) : Mmc1 :=
  if val.getLsbD 7 then { r with shift := 0, count := 0, control := r.control ||| 0x0C#5 }
  else
    let bit : BitVec 5 := (BitVec.ofBool (val.getLsbD 0)).setWidth 5
    let shift : BitVec 5 :=
      match order with
      | .msbFirst => (r.shift <<< 1) ||| bit
      | .lsbFirst => (r.shift >>> 1) ||| (bit <<< 4)
    if r.count + 1 = 5 then
      match addr.toNat / 0x2000 % 4 with
      | 0 => { r with control := shift, shift := 0, count := 0 }
      | 1 => { r with chr0 := shift, shift := 0, count := 0 }
      | 2 => { r with chr1 := shift, shift := 0, count := 0 }
      | _ => { r with prgb := shift, shift := 0, count := 0 }
    else { r with shift := shift, count := r.count + 1 }

/-- The scheme's register write, for a CPU write to 0x8000-0xFFFF (63_mapper_and_ports.md R622, R625, R626, R630 to
R632). The fixed scheme ignores it. -/
def Mapper.write (order : BitOrder) (addr : Addr) (val : Byte) : Mapper → Mapper
  | .fixed => .fixed
  | .shiftRegister r => .shiftRegister (r.write order addr val)
  | .lowerBankSelect _ => .lowerBankSelect val
  | .upperBankSelect _ => .upperBankSelect val
  | .coarseBankSelect _ _ => .coarseBankSelect (val.extractLsb' 0 3) (val.getLsbD 4)

/-- The effective nametable mirroring (10_state.md R102; 63_mapper_and_ports.md R626, R634). -/
def Cart.effectiveMirroring (c : Cart) : Mirroring :=
  match c.mapper with
  | .shiftRegister r =>
    match r.control.toNat % 4 with
    | 0 => .singleScreenLow
    | 1 => .singleScreenHigh
    | 2 => .vertical
    | _ => .horizontal
  | .coarseBankSelect _ screen => if screen then .singleScreenHigh else .singleScreenLow
  | .fixed => c.mirroring
  | .lowerBankSelect _ => c.mirroring
  | .upperBankSelect _ => c.mirroring

/-- The 4 KiB CHR bank of MMC1 for a pattern address (63_mapper_and_ports.md R628). -/
def Mmc1.chrBank (r : Mmc1) (a : Nat) : Nat :=
  if r.control.getLsbD 4 then (if a < 0x1000 then r.chr0.toNat else r.chr1.toNat)
  else 2 * (r.chr0.toNat / 2) + a / 0x1000

/-- The cell of `chr` behind a pattern address (63_mapper_and_ports.md R623, R628). -/
def Cart.chrCell (c : Cart) (a : Nat) : Nat :=
  match c.mapper with
  | .shiftRegister r =>
    0x2000 * (r.chrBank a / 2 % c.nChr) + 0x1000 * (r.chrBank a % 2) + a % 0x1000
  | .fixed => a
  | .lowerBankSelect _ => a
  | .upperBankSelect _ => a
  | .coarseBankSelect _ _ => a

/-- The cell of `chr_ram` behind a pattern address: banked by half for MMC1 only (63_mapper_and_ports.md R623,
R628). -/
def Cart.chrRamCell (c : Cart) (a : Nat) : Nat :=
  match c.mapper with
  | .shiftRegister r => 0x1000 * (r.chrBank a % 2) + a % 0x1000
  | .fixed => a
  | .lowerBankSelect _ => a
  | .upperBankSelect _ => a
  | .coarseBankSelect _ _ => a

/-- `MapperPpuRead(a)` for a pattern address (63_mapper_and_ports.md R623). -/
def Cart.ppuRead (c : Cart) (a : Nat) : Byte :=
  if c.nChr = 0 then Memory.byte .chrRam c.chrRam (c.chrRamCell a) else Memory.byte .chr c.chr (c.chrCell a)

/-- `MapperPpuWrite(a, v)` for a pattern address: CHR ROM ignores it (63_mapper_and_ports.md R623). -/
def Cart.ppuWrite (c : Cart) (a : Nat) (v : Byte) : Cart :=
  if c.nChr = 0 then { c with chrRam := c.chrRam.write (c.chrRamCell a) v } else c

end Sys2Proof.Machine
end

