-- ==== Sys2Proof/Machine/Ppu.lean ====
section
/-!
DEFINITION. The PPU: its address space (20_memory.md R170 to R172), its CPU-visible registers (61_ppu.md R460 to
R469), and one dot of the sequencer with the background pipeline, the sprites and the pixel output (R470 to R510).
A dot reads the cartridge and changes only the PPU; the NMI request it makes is `Ppu.requestsNmi`.
-/

namespace Sys2Proof.Machine

/-- `Bank(mode, q)` of the nametable mirroring table; four-screen falls back to horizontal (20_memory.md R171). -/
def ntBank (mode : Mirroring) (q : Nat) : Nat :=
  match mode with
  | .horizontal => q / 2
  | .vertical => q % 2
  | .singleScreenLow => 0
  | .singleScreenHigh => 1
  | .fourScreen => q / 2

/-- `NtIndex(a)` for a nametable address (20_memory.md R171). -/
def ntIndex (mode : Mirroring) (a : Nat) : Nat := 0x400 * ntBank mode (a / 0x400 % 4) + a % 0x400

/-- `PalIndex(a)`: the backdrop entries 0x10, 0x14, 0x18, 0x1C alias 0x00, 0x04, 0x08, 0x0C (20_memory.md R172). -/
def palIndex (a : Nat) : Nat :=
  let i := a % 0x20
  if i = 0x10 ∨ i = 0x14 ∨ i = 0x18 ∨ i = 0x1C then i - 0x10 else i

/-- `PpuRead(a)` for a 14-bit address (20_memory.md R170). -/
def Ppu.read (c : Cart) (p : Ppu) (a : Nat) : Byte :=
  if a < 0x2000 then c.ppuRead a
  else if a < 0x3F00 then Memory.byte .vram p.vram (ntIndex c.effectiveMirroring a)
  else Memory.byte .palette p.palette (palIndex a)

/-- The PPU's part of `PpuWrite(a, v)`: nametable and palette cells (20_memory.md R170). The pattern tables are the
cartridge's, `Cart.ppuWrite`. -/
def Ppu.write (c : Cart) (p : Ppu) (a : Nat) (v : Byte) : Ppu :=
  if a < 0x2000 then p
  else if a < 0x3F00 then { p with vram := p.vram.write (ntIndex c.effectiveMirroring a) v }
  else { p with palette := p.palette.write (palIndex a) v }

/-- The cartridge's part of `PpuWrite(a, v)` (20_memory.md R170). -/
def Cart.ppuSpaceWrite (c : Cart) (a : Nat) (v : Byte) : Cart := if a < 0x2000 then c.ppuWrite a v else c

/-- `ctrl.NMI` (10_state.md R70). -/
def Ppu.nmiEnabled (p : Ppu) : Bool := p.ctrl.getLsbD 7

/-- `ctrl.INC`: the VRAM address step of a PPUDATA access (61_ppu.md R466). -/
def Ppu.increment (p : Ppu) : BitVec 15 := if p.ctrl.getLsbD 2 then 32 else 1

/-- The sprite height H (61_ppu.md R500). -/
def Ppu.spriteHeight (p : Ppu) : Nat := if p.ctrl.getLsbD 5 then 16 else 8

/-- `mask.BG` (10_state.md R71). -/
def Ppu.showBg (p : Ppu) : Bool := p.mask.getLsbD 3

/-- `mask.SPR` (10_state.md R71). -/
def Ppu.showSpr (p : Ppu) : Bool := p.mask.getLsbD 4

/-- Rendering is enabled when BG or SPR is set (61_ppu.md R470). -/
def Ppu.rendering (p : Ppu) : Bool := p.showBg || p.showSpr

/-- The four render states, a function of the scanline (10_state.md R80). -/
inductive RenderState | visible | postRender | vblank | preRender
  deriving DecidableEq, Repr

/-- The render state of a scanline (10_state.md R80; 61_ppu.md R472). -/
def renderState (scanline : Nat) : RenderState :=
  if scanline < 240 then .visible
  else if scanline = 240 then .postRender
  else if scanline < 261 then .vblank
  else .preRender

/-! ### CPU-visible registers -/

/-- The value a PPUSTATUS read returns (61_ppu.md R462). -/
def Ppu.statusByte (p : Ppu) : Byte :=
  BitVec.ofBool p.vblank ++ BitVec.ofBool p.sprite0Hit ++ BitVec.ofBool p.spriteOverflow ++ p.latch.extractLsb' 0 5

/-- `PpuRegRead(r)`: the byte returned and the PPU after it (61_ppu.md R462, R466, R467). -/
def Ppu.regRead (c : Cart) (p : Ppu) (r : Nat) : Byte × Ppu :=
  match r with
  | 2 => (p.statusByte, { p with vblank := false, w := false, latch := p.statusByte })
  | 4 =>
    let b := Memory.byte .oam p.oam p.oamaddr.toNat
    (b, { p with latch := b })
  | 7 =>
    let a := p.v.toNat % 0x4000
    if a < 0x3F00 then
      (p.buffer, { p with buffer := p.read c a, v := p.v + p.increment, latch := p.buffer })
    else
      let b := p.read c a
      (b, { p with buffer := p.read c (a - 0x1000), v := p.v + p.increment, latch := b })
  | _ => (p.latch, p)

/-- PPUSCROLL write (61_ppu.md R465). -/
def Ppu.scrollWrite (p : Ppu) (val : Byte) : Ppu :=
  if p.w then
    { p with
      t := val.extractLsb' 0 3 ++ p.t.extractLsb' 10 2 ++ val.extractLsb' 3 5 ++ p.t.extractLsb' 0 5
      w := false }
  else { p with t := p.t.extractLsb' 5 10 ++ val.extractLsb' 3 5, x := val &&& 7, w := true }

/-- PPUADDR write (61_ppu.md R465). -/
def Ppu.addrWrite (p : Ppu) (val : Byte) : Ppu :=
  if p.w then
    let t : BitVec 15 := p.t.extractLsb' 8 7 ++ val
    { p with t := t, v := t, w := false }
  else { p with t := 0#1 ++ val.extractLsb' 0 6 ++ p.t.extractLsb' 0 8, w := true }

/-- The PPU's part of `PpuRegWrite(r, val)` (61_ppu.md R460, R461, R463, R465, R466). -/
def Ppu.regWrite (c : Cart) (p0 : Ppu) (r : Nat) (val : Byte) : Ppu :=
  let p := { p0 with latch := val }
  match r with
  | 0 => { p with ctrl := val, t := p.t.extractLsb' 12 3 ++ val.extractLsb' 0 2 ++ p.t.extractLsb' 0 10 }
  | 1 => { p with mask := val }
  | 2 => p
  | 3 => { p with oamaddr := val }
  | 4 => { p with oam := p.oam.write p.oamaddr.toNat val, oamaddr := p.oamaddr + 1 }
  | 5 => p.scrollWrite val
  | 6 => p.addrWrite val
  | _ =>
    let q := p.write c (p.v.toNat % 0x4000) val
    { q with v := p.v + p.increment }

/-- The cartridge's part of `PpuRegWrite(r, val)`: a PPUDATA write below 0x2000 (61_ppu.md R466). -/
def Cart.ppuRegWrite (c : Cart) (p : Ppu) (r : Nat) (val : Byte) : Cart :=
  if r = 7 then c.ppuSpaceWrite (p.v.toNat % 0x4000) val else c

/-- A PPUCTRL write requests an NMI when it takes NMI enable from 0 to 1 in vblank (61_ppu.md R464). -/
def Ppu.writeRequestsNmi (p : Ppu) (r : Nat) (val : Byte) : Bool :=
  r == 0 && !p.nmiEnabled && val.getLsbD 7 && p.vblank

/-! ### The background pipeline -/

/-- v.coarse_x (10_state.md R74). -/
def coarseX (v : BitVec 15) : Nat := v.toNat % 32

/-- v.coarse_y (10_state.md R74). -/
def coarseY (v : BitVec 15) : Nat := v.toNat / 32 % 32

/-- v.fine_y (10_state.md R74). -/
def fineY (v : BitVec 15) : Nat := v.toNat / 4096 % 8

/-- `NtAddr()` (61_ppu.md R481). -/
def ntAddr (v : BitVec 15) : Nat := 0x2000 + v.toNat % 0x1000

/-- `AtAddr()` (61_ppu.md R482). -/
def atAddr (v : BitVec 15) : Nat :=
  0x23C0 + 0x400 * (v.toNat / 0x400 % 4) + 8 * (v.toNat / 128 % 8) + v.toNat / 4 % 8

/-- `AtBits(b)`: the tile's palette number from its attribute byte (61_ppu.md R482). -/
def atBits (v : BitVec 15) (b : Byte) : BitVec 2 :=
  b.extractLsb' ((if coarseY v / 2 % 2 = 1 then 4 else 0) + (if coarseX v / 2 % 2 = 1 then 2 else 0)) 2

/-- `PatAddr(k)` (61_ppu.md R483). -/
def Ppu.patAddr (p : Ppu) (k : Nat) : Nat :=
  (if p.ctrl.getLsbD 4 then 0x1000 else 0) + p.bgNt.toNat * 16 + fineY p.v + k

/-- A register whose low byte is replaced (61_ppu.md R484). -/
def reloadLow (r : BitVec 16) (b : Byte) : BitVec 16 := r.extractLsb' 8 8 ++ b

/-- A byte of one bit repeated (61_ppu.md R484). -/
def repeatBit (b : Bool) : Byte := if b then 0xFF else 0

/-- `Reload()` (61_ppu.md R484). -/
def Ppu.reload (p : Ppu) : Ppu :=
  { p with
    shPatLo := reloadLow p.shPatLo p.bgLo
    shPatHi := reloadLow p.shPatHi p.bgHi
    shAtLo := reloadLow p.shAtLo (repeatBit (p.bgAt.getLsbD 0))
    shAtHi := reloadLow p.shAtHi (repeatBit (p.bgAt.getLsbD 1)) }

/-- `Shift()` (61_ppu.md R484). -/
def Ppu.shift (p : Ppu) : Ppu :=
  { p with
    shPatLo := p.shPatLo <<< 1
    shPatHi := p.shPatHi <<< 1
    shAtLo := p.shAtLo <<< 1
    shAtHi := p.shAtHi <<< 1 }

/-- `IncX()` on v (61_ppu.md R485). -/
def incX (v : BitVec 15) : BitVec 15 :=
  if coarseX v = 31 then (v &&& 0x7FE0#15) ^^^ 0x0400#15 else v + 1

/-- `IncY()` on v (61_ppu.md R485). -/
def incY (v : BitVec 15) : BitVec 15 :=
  if fineY v < 7 then v + 0x1000#15
  else if coarseY v = 29 then (v &&& 0x0C1F#15) ^^^ 0x0800#15
  else if coarseY v = 31 then v &&& 0x0C1F#15
  else (v &&& 0x0FFF#15) + 0x20#15

/-- `CopyX()` on v (61_ppu.md R486). -/
def copyX (v t : BitVec 15) : BitVec 15 := (v &&& 0x7BE0#15) ||| (t &&& 0x041F#15)

/-- `CopyY()` on v (61_ppu.md R486). -/
def copyY (v t : BitVec 15) : BitVec 15 := (v &&& 0x041F#15) ||| (t &&& 0x7BE0#15)

/-- The step of the 8-dot tile cycle (61_ppu.md R480). -/
def Ppu.tileStep (c : Cart) (p : Ppu) : Ppu :=
  match (p.dot - 1) % 8 with
  | 0 =>
    let q := p.reload
    { q with bgNt := p.read c (ntAddr p.v) }
  | 2 => { p with bgAt := atBits p.v (p.read c (atAddr p.v)) }
  | 4 => { p with bgLo := p.read c (p.patAddr 0) }
  | 6 => { p with bgHi := p.read c (p.patAddr 8) }
  | 7 => { p with v := incX p.v }
  | _ => p

/-- The background pipeline's work of one dot, on scanlines 0-239 and 261 with rendering enabled, in the order of
61_ppu.md R480. -/
def Ppu.background (c : Cart) (p : Ppu) : Ppu :=
  if p.rendering ∧ (p.scanline < 240 ∨ p.scanline = 261) then
    let d := p.dot
    let p := if (2 ≤ d ∧ d ≤ 257) ∨ (322 ≤ d ∧ d ≤ 337) then p.shift else p
    let p := if (2 ≤ d ∧ d ≤ 257) ∨ (321 ≤ d ∧ d ≤ 337) then p.tileStep c else p
    let p := if d = 256 then { p with v := incY p.v } else p
    let p := if d = 257 then { p.reload with v := copyX p.v p.t } else p
    let p := if d = 338 ∨ d = 340 then { p with bgNt := p.read c (ntAddr p.v) } else p
    if p.scanline = 261 ∧ 280 ≤ d ∧ d ≤ 304 then { p with v := copyY p.v p.t } else p
  else p

/-- The flag events at (261, 1) and (241, 1), whether or not rendering is enabled (61_ppu.md R487). -/
def Ppu.flagEvents (p : Ppu) : Ppu :=
  if p.dot = 1 then
    if p.scanline = 261 then { p with vblank := false, sprite0Hit := false, spriteOverflow := false }
    else if p.scanline = 241 then { p with vblank := true, vblEvent := true }
    else p
  else p

/-- The dot about to be processed is (241, 1) and NMI is enabled: it requests an NMI (61_ppu.md R487). -/
def Ppu.requestsNmi (p : Ppu) : Bool := p.dot == 1 && p.scanline == 241 && p.nmiEnabled

/-! ### Sprites -/

/-- `0 <= s - y < H` (61_ppu.md R500). -/
def spriteInRange (s y h : Nat) : Bool := decide (y ≤ s) && decide (s - y < h)

/-- A byte of OAM. -/
def Ppu.oamByte (p : Ppu) (k : Nat) : Byte := Memory.byte .oam p.oam k

/-- The byte with its bits in reverse order (61_ppu.md R501). -/
def reverse8 (b : Byte) : Byte :=
  BitVec.ofBool (b.getLsbD 0) ++ BitVec.ofBool (b.getLsbD 1) ++ BitVec.ofBool (b.getLsbD 2)
    ++ BitVec.ofBool (b.getLsbD 3) ++ BitVec.ofBool (b.getLsbD 4) ++ BitVec.ofBool (b.getLsbD 5)
    ++ BitVec.ofBool (b.getLsbD 6) ++ BitVec.ofBool (b.getLsbD 7)

/-- The address of an entry's low pattern byte on scanline `s` (61_ppu.md R501). -/
def Ppu.spritePatAddr (p : Ppu) (s : Nat) (y tile attr : Byte) : Nat :=
  let row0 := s - y.toNat
  let row := if attr.getLsbD 7 then p.spriteHeight - 1 - row0 else row0
  if p.ctrl.getLsbD 5 then
    let base := (if tile.getLsbD 0 then 0x1000 else 0) + (tile.toNat / 2 * 2) * 16
    if 8 ≤ row then base + 16 + (row - 8) else base + row
  else (if p.ctrl.getLsbD 3 then 0x1000 else 0) + tile.toNat * 16 + row

/-- The list entry of OAM sprite `n`, with its pattern bytes (61_ppu.md R500, R501). -/
def Ppu.spriteEntry (c : Cart) (p : Ppu) (n : Nat) : Sprite :=
  let y := p.oamByte (4 * n)
  let tile := p.oamByte (4 * n + 1)
  let attr := p.oamByte (4 * n + 2)
  let a := p.spritePatAddr p.scanline y tile attr
  let lo := p.read c a
  let hi := p.read c (a + 8)
  { y := y, tile := tile, attr := attr, xpos := p.oamByte (4 * n + 3)
    lo := if attr.getLsbD 6 then reverse8 lo else lo
    hi := if attr.getLsbD 6 then reverse8 hi else hi }

/-- The first loop of 61_ppu.md R500 over the `k` sprites from `n` on, with room for `room` entries: the sprite numbers
selected, in order, and the number the loop stops at. -/
def Ppu.selectSprites (p : Ppu) : (k n room : Nat) → List Nat × Nat
  | 0, n, _ => ([], n)
  | k + 1, n, room =>
    if room = 0 then ([], n)
    else if spriteInRange p.scanline (p.oamByte (4 * n)).toNat p.spriteHeight then
      let r := p.selectSprites k (n + 1) (room - 1)
      (n :: r.1, r.2)
    else p.selectSprites k (n + 1) room

/-- The overflow loop of 61_ppu.md R500 over the `k` sprites from `n` on, with its byte index `m`. -/
def Ppu.overflowFound (p : Ppu) : (k n m : Nat) → Bool
  | 0, _, _ => false
  | k + 1, n, m =>
    if spriteInRange p.scanline (p.oamByte (4 * n + m)).toNat p.spriteHeight then true
    else p.overflowFound k (n + 1) ((m + 1) % 4)

/-- Sprite evaluation at dot 257 of a visible scanline, for the next one (61_ppu.md R500). -/
def Ppu.evaluateSprites (c : Cart) (p : Ppu) : Ppu :=
  let r := p.selectSprites 64 0 8
  { p with
    spr := r.1.map (p.spriteEntry c)
    spr0OnLine := r.1.contains 0
    spriteOverflow := p.spriteOverflow || (r.1.length == 8 && p.overflowFound (64 - r.2) r.2 0) }

/-- The sprite work of one dot: evaluation at dot 257 of a visible scanline, the list emptied at dot 257 of the
pre-render line (61_ppu.md R500), nothing under the stub (R505), and OAMADDR cleared at dots 257-320 (R504). -/
def Ppu.spriteStep (cfg : Params) (c : Cart) (p : Ppu) : Ppu :=
  if p.rendering ∧ (p.scanline < 240 ∨ p.scanline = 261) then
    let p :=
      if p.dot = 257 ∧ cfg.sprites = .full then
        if p.scanline < 240 then p.evaluateSprites c else { p with spr := [], spr0OnLine := false }
      else p
    if 257 ≤ p.dot ∧ p.dot ≤ 320 then { p with oamaddr := 0 } else p
  else p

/-- A sprite pixel: the 2-bit pixel, its palette, its priority bit, and whether it is sprite zero's. -/
structure SpritePixel where
  pix : Nat
  pal : Nat
  behind : Bool
  zero : Bool
  deriving DecidableEq, Repr

/-- The pixel of one entry at column `x`, 0 where the entry does not cover it (61_ppu.md R502). -/
def Sprite.pixelAt (e : Sprite) (x : Nat) : Nat :=
  if e.xpos.toNat ≤ x ∧ x < e.xpos.toNat + 8 then
    2 * (e.hi.getLsbD (7 - (x - e.xpos.toNat))).toNat + (e.lo.getLsbD (7 - (x - e.xpos.toNat))).toNat
  else 0

/-- The first entry with a non-zero pixel at column `x` gives the sprite pixel; `first` says that the list's head is
entry 0 and OAM sprite 0 (61_ppu.md R502). -/
def firstSpritePixel (x : Nat) : (first : Bool) → List Sprite → SpritePixel
  | _, [] => { pix := 0, pal := 0, behind := false, zero := false }
  | first, e :: l =>
    if e.pixelAt x = 0 then firstSpritePixel x false l
    else { pix := e.pixelAt x, pal := 4 + e.attr.toNat % 4, behind := e.attr.getLsbD 5, zero := first }

/-- The sprite pixel of a visible dot, with the mask's enables and the left clip (61_ppu.md R502, R505). -/
def Ppu.spritePixel (cfg : Params) (p : Ppu) (x : Nat) : SpritePixel :=
  if cfg.sprites = .stub ∨ p.showSpr = false ∨ (p.mask.getLsbD 2 = false ∧ x < 8) then
    { pix := 0, pal := 0, behind := false, zero := false }
  else firstSpritePixel x p.spr0OnLine p.spr

/-! ### Pixel output -/

/-- A bit pair of two shift registers at the fine-X position (61_ppu.md R488). -/
def Ppu.bitPair (p : Ppu) (hi lo : BitVec 16) : Nat :=
  let m := 0x8000#16 >>> p.x.toNat
  (if hi &&& m = 0 then 0 else 2) + (if lo &&& m = 0 then 0 else 1)

/-- `bg_pix`, with the left clip (61_ppu.md R488). -/
def Ppu.bgPix (p : Ppu) (x : Nat) : Nat :=
  if p.mask.getLsbD 1 = false ∧ x < 8 then 0 else p.bitPair p.shPatHi p.shPatLo

/-- `bg_pal` (61_ppu.md R488). -/
def Ppu.bgPal (p : Ppu) : Nat := p.bitPair p.shAtHi p.shAtLo

/-- The palette address a pixel takes its colour from (61_ppu.md R510). -/
def Ppu.pixelPalAddr (p : Ppu) (x : Nat) (sp : SpritePixel) : Nat :=
  if p.showBg = false then 0x3F00
  else if p.bgPix x = 0 then
    if sp.pix = 0 then 0x3F00 else 0x3F00 + 4 * sp.pal + sp.pix
  else if sp.pix = 0 then 0x3F00 + 4 * p.bgPal + p.bgPix x
  else if sp.behind then 0x3F00 + 4 * p.bgPal + p.bgPix x
  else 0x3F00 + 4 * sp.pal + sp.pix

/-- The colour index of a pixel (61_ppu.md R510). -/
def Ppu.pixelColour (p : Ppu) (x : Nat) (sp : SpritePixel) : BitVec 6 :=
  let col := Memory.byte .palette p.palette (palIndex (p.pixelPalAddr x sp))
  (if p.mask.getLsbD 0 then col &&& 0x30 else col).setWidth 6

/-- The frame buffer with one pixel set. -/
def Frame.put (f : Frame) (line x : Nat) (col : BitVec 6) : Frame :=
  match sortedGet f line with
  | some row => sortedPut f line (sortedPut row x col)
  | none => sortedPut f line [(x, col)]

/-- The colour index of a pixel: the one drawn last, or the unspecified power-on one (10_state.md R85; DESIGN CHOICE,
log entry 14). -/
def Frame.pixel (f : Frame) (line x : Nat) : BitVec 6 :=
  match sortedGet f line with
  | some row => (sortedGet row x).getD (Config.initPixel line x)
  | none => Config.initPixel line x

/-- The pixel output and the sprite-zero hit of a visible dot (61_ppu.md R503, R510). -/
def Ppu.pixelStep (cfg : Params) (p : Ppu) : Ppu :=
  if p.scanline < 240 ∧ 1 ≤ p.dot ∧ p.dot ≤ 256 then
    let x := p.dot - 1
    let sp := p.spritePixel cfg x
    { p with
      sprite0Hit := p.sprite0Hit ||
        (sp.zero && p.bgPix x != 0 && sp.pix != 0 && p.showBg && p.showSpr && x != 255)
      frame := p.frame.put p.scanline x (p.pixelColour x sp) }
  else p

/-- `Advance()` (61_ppu.md R471). -/
def Ppu.advance (p : Ppu) : Ppu :=
  if p.scanline = 261 ∧ p.dot = 339 ∧ p.odd ∧ p.rendering then { p with dot := 0, scanline := 0, odd := false }
  else if p.dot + 1 = 341 then
    if p.scanline + 1 = 262 then { p with dot := 0, scanline := 0, odd := !p.odd }
    else { p with dot := 0, scanline := p.scanline + 1 }
  else { p with dot := p.dot + 1 }

/-- `PpuDot()`: one dot, then the advance (61_ppu.md R470). The order inside the dot is DEDUCED, log entry 10. -/
def Ppu.dotStep (cfg : Params) (c : Cart) (p : Ppu) : Ppu :=
  ((p.flagEvents.background c).spriteStep cfg c |>.pixelStep cfg).advance

end Sys2Proof.Machine
end

