-- ==== Sys2Proof/Machine/Bus.lean ====
section
/-!
DEFINITION. The CPU bus: the address decoder of 20_memory.md R140 to R145, the controller ports (63_mapper_and_ports.md
R640 to R643) and the cartridge space (R621, R622). Every access of the CPU and of the DMA engines goes through
`busRead` and `busWrite`.
-/

namespace Sys2Proof.Machine

/-! ### Free draws -/

/-- One `OPEN_BUS` draw (20_memory.md R144; DESIGN CHOICE, log entry 3). -/
def drawOpenBus (s : State) : Byte × State :=
  (Config.openBus s.draws.openBus, { s with draws := { s.draws with openBus := s.draws.openBus + 1 } })

/-- `BUTTONS(c)` at a latch: the host's byte if the host supplies one, else a draw (63_mapper_and_ports.md R640;
DESIGN CHOICE, log entry 4). -/
def latchButtons (second : Bool) (s : State) : Byte × State :=
  match s.pads.host with
  | some b => (if second then b.2 else b.1, s)
  | none => (Config.buttons s.draws.buttons, { s with draws := { s.draws with buttons := s.draws.buttons + 1 } })

/-! ### Controller ports -/

/-- `PadStrobe(v)` (63_mapper_and_ports.md R641). -/
def padStrobe (v : Byte) (s : State) : State :=
  if v.getLsbD 0 then
    let r1 := latchButtons false s
    let r2 := latchButtons true r1.2
    { r2.2 with pads := { s.pads with strobe := true, shift1 := r1.1, shift2 := r2.1 } }
  else { s with pads := { s.pads with strobe := false } }

/-- The shift register of a controller. -/
def Pads.shift (second : Bool) (p : Pads) : Byte := if second then p.shift2 else p.shift1

/-- The ports with a controller's shift register set. -/
def Pads.setShift (second : Bool) (v : Byte) (p : Pads) : Pads :=
  if second then { p with shift2 := v } else { p with shift1 := v }

/-- `PadRead(c)` (63_mapper_and_ports.md R642). -/
def padRead (second : Bool) (s : State) : Byte × State :=
  if s.pads.strobe then
    let r := latchButtons second s
    let s1 := { r.2 with pads := s.pads.setShift second r.1 }
    let ob := drawOpenBus s1
    ((ob.1 &&& 0xE0) ||| (r.1 &&& 1), ob.2)
  else
    let v := s.pads.shift second
    let s1 := { s with pads := s.pads.setShift second ((v >>> 1) ||| 0x80) }
    let ob := drawOpenBus s1
    ((ob.1 &&& 0xE0) ||| (v &&& 1), ob.2)

/-! ### Cartridge space -/

/-- `MapperCpuRead(addr)` (63_mapper_and_ports.md R621). -/
def mapperCpuRead (addr : Addr) (s : State) : Byte :=
  let a := addr.toNat
  if a < 0x6000 then Memory.byte .exram s.exram (a - 0x4020)
  else if a < 0x8000 then Memory.byte .sram s.sram (a - 0x6000)
  else s.cart.prgByte a

/-- `MapperCpuWrite(addr, v)` (63_mapper_and_ports.md R622). -/
def mapperCpuWrite (addr : Addr) (v : Byte) (s : State) : State :=
  let a := addr.toNat
  if a < 0x6000 then { s with exram := s.exram.write (a - 0x4020) v }
  else if a < 0x8000 then { s with sram := s.sram.write (a - 0x6000) v }
  else { s with cart := { s.cart with mapper := s.cart.mapper.write s.cfg.mmc1BitOrder addr v } }

/-! ### The decoder -/

/-- A CPU read of a PPU register (20_memory.md R140; 61_ppu.md R467). -/
def ppuRegRead (r : Nat) (s : State) : Byte × State :=
  let q := s.ppu.regRead s.cart r
  (q.1, { s with ppu := q.2 })

/-- A CPU write of a PPU register, with the NMI request of a PPUCTRL write (20_memory.md R142; 61_ppu.md R460, R464). -/
def ppuRegWrite (r : Nat) (v : Byte) (s : State) : State :=
  { s with
    ppu := s.ppu.regWrite s.cart r v
    cart := s.cart.ppuRegWrite s.ppu r v
    nmiPending := s.nmiPending || s.ppu.writeRequestsNmi r v }

/-- `ApuStatusRead()`: it clears the frame interrupt (62_apu.md R562). -/
def apuStatusRead (s : State) : Byte × State :=
  let ob := drawOpenBus s
  (s.apu.statusByte ob.1, { ob.2 with apu := { s.apu with frameIrq := false } })

/-- `BusRead(addr)` in the console map (20_memory.md R140). -/
def consoleRead (addr : Addr) (s : State) : Byte × State :=
  let a := addr.toNat
  if a < 0x2000 then (Memory.byte .ram s.ram (a % 0x800), s)
  else if a < 0x4000 then ppuRegRead (a % 8) s
  else if a < 0x4015 then drawOpenBus s
  else if a = 0x4015 then apuStatusRead s
  else if a = 0x4016 then padRead false s
  else if a = 0x4017 then padRead true s
  else if a < 0x4020 then drawOpenBus s
  else (mapperCpuRead addr s, s)

/-- `BusWrite(addr, v)` in the console map (20_memory.md R142, R143). -/
def consoleWrite (addr : Addr) (v : Byte) (s : State) : State :=
  let a := addr.toNat
  if a < 0x2000 then { s with ram := s.ram.write (a % 0x800) v }
  else if a < 0x4000 then ppuRegWrite (a % 8) v s
  else if a < 0x4014 then { s with apu := s.apu.write (a - 0x4000) v }
  else if a = 0x4014 then { s with oamDmaPage := some v }
  else if a = 0x4015 then { s with apu := s.apu.statusWrite v }
  else if a = 0x4016 then padStrobe v s
  else if a = 0x4017 then { s with apu := s.apu.frameCounterWrite s.cycles v }
  else if a < 0x4020 then s
  else mapperCpuWrite addr v s

/-- `BusRead(addr)` (20_memory.md R140, R145). -/
def busRead (addr : Addr) (s : State) : Byte × State :=
  match s.cfg.busMode with
  | .console => consoleRead addr s
  | .flat64k => (Memory.byte .flat s.flat addr.toNat, s)

/-- `BusWrite(addr, v)` (20_memory.md R142, R145). -/
def busWrite (addr : Addr) (v : Byte) (s : State) : State :=
  match s.cfg.busMode with
  | .console => consoleWrite addr v s
  | .flat64k => { s with flat := s.flat.write addr.toNat v }

/-- `irq_line`: the OR of the two APU sources, 0 in flat mode (10_state.md R52, 20_memory.md R145). -/
def irqLine (s : State) : Bool :=
  match s.cfg.busMode with
  | .console => s.apu.frameIrq || s.apu.dmc.dmcIrq
  | .flat64k => false

/-! ### Storage seen from the CPU -/

/-- The byte of RAM, cartridge RAM or PRG ROM behind a CPU address, without a bus access; none where a device or
nothing answers (20_memory.md R160). -/
def storedByte (s : State) (addr : Addr) : Option Byte :=
  match s.cfg.busMode with
  | .flat64k => some (Memory.byte .flat s.flat addr.toNat)
  | .console =>
    let a := addr.toNat
    if a < 0x2000 then some (Memory.byte .ram s.ram (a % 0x800))
    else if a < 0x4020 then none
    else some (mapperCpuRead addr s)

/-- Place a byte in the storage behind a CPU address, as a load from outside does (DESIGN CHOICE, log entry 12): RAM,
cartridge RAM, or the PRG cell the mapper windows there. A device address takes nothing. -/
def pokeByte (addr : Addr) (v : Byte) (s : State) : State :=
  match s.cfg.busMode with
  | .flat64k => { s with flat := s.flat.write addr.toNat v }
  | .console =>
    let a := addr.toNat
    if a < 0x2000 then { s with ram := s.ram.write (a % 0x800) v }
    else if a < 0x4020 then s
    else if a < 0x6000 then { s with exram := s.exram.write (a - 0x4020) v }
    else if a < 0x8000 then { s with sram := s.sram.write (a - 0x6000) v }
    else { s with cart := { s.cart with prg := s.cart.prg.write (s.cart.prgCell a) v } }

end Sys2Proof.Machine
end

