-- ==== Sys2Proof/Machine/Flags.lean ====
section
/-!
DEFINITION. The flag computations: P as a byte (10_state.md R47, R48), SetNZ (00_scope.md R16), the binary adder and
the compare (42_arithmetic_logic.md R300), and the four shifts (43_shift_rotate.md R330 to R333).
-/

namespace Sys2Proof.Machine

/-- `PByte()`: the break field reads 10 (10_state.md R48). -/
def Flags.toByte (p : Flags) : Byte :=
  BitVec.ofBool p.n ++ BitVec.ofBool p.v ++ 1#1 ++ 0#1 ++ BitVec.ofBool p.d ++ BitVec.ofBool p.i ++ BitVec.ofBool p.z
    ++ BitVec.ofBool p.c

/-- `SetP(b)`: bits 5:4 of b are ignored (10_state.md R48). -/
def Flags.ofByte (b : Byte) : Flags :=
  { n := b.getLsbD 7, v := b.getLsbD 6, d := b.getLsbD 3, i := b.getLsbD 2, z := b.getLsbD 1, c := b.getLsbD 0 }

/-- `SetNZ(v)` (00_scope.md R16). -/
def Flags.setNZ (v : Byte) (p : Flags) : Flags := { p with n := v.getLsbD 7, z := v == 0 }

/-- `AddC(a, b, c)`: the sum's byte (42_arithmetic_logic.md R300). -/
def addCResult (a b : Byte) (c : Bool) : Byte := BitVec.ofNat 8 (a.toNat + b.toNat + c.toNat)

/-- `AddC(a, b, c)`: the carry out, the exact sum is above 255 (42_arithmetic_logic.md R300). -/
def addCCarry (a b : Byte) (c : Bool) : Bool := decide (a.toNat + b.toNat + c.toNat > 255)

/-- `AddC(a, b, c)`: signed overflow, `(a ^ t) & (b ^ t) & 0x80` (42_arithmetic_logic.md R300). -/
def addCOverflow (a b : Byte) (c : Bool) : Bool :=
  ((a ^^^ addCResult a b c) &&& (b ^^^ addCResult a b c)).getLsbD 7

/-- The flags after `AddC(a, b, c)` (42_arithmetic_logic.md R300). -/
def Flags.addC (a b : Byte) (p : Flags) : Flags :=
  ({ p with c := addCCarry a b p.c, v := addCOverflow a b p.c } : Flags).setNZ (addCResult a b p.c)

/-- The flags after `Cmp(r, m)`; V is unchanged (42_arithmetic_logic.md R300). -/
def Flags.cmp (r m : Byte) (p : Flags) : Flags :=
  ({ p with c := decide (m.toNat ≤ r.toNat) } : Flags).setNZ (r - m)

/-- ASL and its kin: the byte shifted left (43_shift_rotate.md R330). -/
def aslByte (m : Byte) : Byte := m <<< 1

/-- LSR: the byte shifted right (43_shift_rotate.md R331). -/
def lsrByte (m : Byte) : Byte := m >>> 1

/-- ROL: the byte rotated left through the carry (43_shift_rotate.md R332). -/
def rolByte (c : Bool) (m : Byte) : Byte := m.extractLsb' 0 7 ++ BitVec.ofBool c

/-- ROR: the byte rotated right through the carry (43_shift_rotate.md R333). -/
def rorByte (c : Bool) (m : Byte) : Byte := BitVec.ofBool c ++ m.extractLsb' 1 7

end Sys2Proof.Machine
end

