-- ==== Sys2Proof/Machine/Ops.lean ====
section
/-!
DEFINITION. The CPU cycle and what is built on it: the clock coupling and the DMC stall (20_memory.md R131 to R135),
the DMC reader (62_apu.md R591), the stack (00_scope.md R15), instruction fetch (40_addressing_modes.md R240), TAKING AN
INTERRUPT and returning from one (60_exceptions.md R413 to R424), OAM DMA (61_ppu.md R520), the unimplemented-slot
fault (46_undocumented.md R391).
-/

namespace Sys2Proof.Machine

/-! ### The cycle -/

/-- One PPU dot (61_ppu.md R470); its NMI request is latched (20_memory.md R134). -/
def ppuDot (s : State) : State :=
  { s with ppu := Ppu.dotStep s.cfg s.cart s.ppu, nmiPending := s.nmiPending || s.ppu.requestsNmi }

/-- `PpuDots(n)` (61_ppu.md R470). -/
def ppuDots : Nat → State → State
  | 0, s => s
  | n + 1, s => ppuDots n (ppuDot s)

/-- `DotsThisCycle()`: the number of dots (20_memory.md R132). -/
def dotsThisCycle (s : State) : Nat :=
  match s.cfg.region with
  | .ntsc => 3
  | .pal => if s.palPhase = 4 then 4 else 3

/-- `DotsThisCycle()`: the phase after it (20_memory.md R132). -/
def advancePhase (s : State) : State :=
  match s.cfg.region with
  | .ntsc => s
  | .pal => { s with palPhase := (s.palPhase + 1) % 5 }

/-- `DmcReader()`: the sample fetch, a bus read inside the tick, and its stall (62_apu.md R591). -/
def dmcReader (s : State) : State :=
  if s.apu.dmc.wantsByte then
    let r := busRead s.apu.dmc.curAddr { s with stall := s.stall + s.cfg.dmcStallCycles }
    { r.2 with apu := { r.2.apu with dmc := r.2.apu.dmc.take r.1 } }
  else s

/-- `ApuTick()` (62_apu.md R550). -/
def apuTick (s : State) : State :=
  let r := s.apu.tickHead s.cfg
  let s1 := dmcReader { s with apu := r.1 }
  { s1 with apu := s1.apu.tickTail s1.cfg r.2 }

/-- The device part of a cycle: the dots, then the APU tick; nothing in flat mode (20_memory.md R131, R145). -/
def clockDevices (s : State) : State :=
  match s.cfg.busMode with
  | .console => apuTick (ppuDots (dotsThisCycle s) (advancePhase s))
  | .flat64k => advancePhase s

/-- The end of a cycle after its bus access: the devices, then the counters (20_memory.md R131). -/
def endCycle (s : State) : State :=
  let s1 := clockDevices s
  { s1 with cycles := s1.cycles + 1, delta := s1.delta + 1 }

/-- One turn of the loop of `DrainStall()` (20_memory.md R133). -/
def drainTurn (s : State) : State := endCycle { s with stall := s.stall - 1 }

/-- The loop of `DrainStall()`, run at most `n` times (20_memory.md R133). -/
def drainLoop : Nat → State → State
  | 0, s => s
  | n + 1, s => if s.stall = 0 then s else drainLoop n (drainTurn s)

/-- A bound on the runs of the drain loop, reached only where the loop never ends (DEDUCED, log entry 6). A sample has
at most 4095 bytes left, and a looping one fetches a byte every 400 to 3424 ticks. -/
def drainBound (s : State) : Nat := 4096 * (s.stall + 3 * s.cfg.dmcStallCycles + 4)

/-- `DrainStall()` (20_memory.md R133); a stall that never ends is marked (log entry 6). -/
def drainStall (s : State) : State :=
  if s.stall = 0 then s
  else
    let t := drainLoop (drainBound s) s
    { t with hung := t.hung || t.stall != 0 }

/-- `MemRead(addr, 1)`: one CPU cycle that reads (00_scope.md R14, 20_memory.md R131). -/
def memRead (addr : Addr) (s : State) : Byte × State :=
  let r := busRead addr (drainStall s)
  (r.1, endCycle r.2)

/-- `MemWrite(addr, 1, v)`: one CPU cycle that writes (00_scope.md R14, 20_memory.md R131). -/
def memWrite (addr : Addr) (v : Byte) (s : State) : State := endCycle (busWrite addr v (drainStall s))

/-- `Tick()`: one CPU cycle with no bus access (00_scope.md R14, 20_memory.md R131). -/
def tick (s : State) : State := endCycle (drainStall s)

/-! ### Registers and the stack -/

/-- Change the registers. -/
def setRegs (f : Regs → Regs) (s : State) : State := { s with regs := f s.regs }

/-- Write PC. -/
def setPc (pc : Addr) (s : State) : State := setRegs (fun r => { r with pc := pc }) s

/-- Change the flags. -/
def setFlags (f : Flags → Flags) (s : State) : State := setRegs (fun r => { r with p := f r.p }) s

/-- The stack slot S addresses: 0x0100 | S (10_state.md R43). -/
def stackAddr (sp : Byte) : Addr := 1#8 ++ sp

/-- `Push(v)` (00_scope.md R15). -/
def push (v : Byte) (s : State) : State :=
  setRegs (fun r => { r with s := r.s - 1 }) (memWrite (stackAddr s.regs.s) v s)

/-- `Pull()`: increment S, then read (00_scope.md R15, 90_conflicts.md C6). -/
def pull (s : State) : Byte × State :=
  let s1 := setRegs (fun r => { r with s := r.s + 1 }) s
  memRead (stackAddr s1.regs.s) s1

/-! ### Instruction fetch -/

/-- `FetchByte()` (40_addressing_modes.md R240). -/
def fetchByte (s : State) : Byte × State :=
  let r := memRead s.regs.pc s
  (r.1, setRegs (fun q => { q with pc := q.pc + 1 }) r.2)

/-- The byte the bus would give at PC + `k` now, with no cycle and no effect (DEDUCED, log entry 8). -/
def lookAhead (k : Addr) (s : State) : Byte := (busRead (s.regs.pc + k) s).1

/-- The instruction at PC and the state from which it executes: the opcode fetch, then one fetch per operand byte, each
its own cycle (40_addressing_modes.md R240 to R253, where operand fetches come right after the opcode's). An
unimplemented slot fetches no operand (46_undocumented.md R391), and JSR fetches its high byte itself, after its pushes
(44_control_flow.md R350): those bytes are only looked at (DEDUCED, log entry 8). -/
def fetchInstr (s : State) : Instr × State :=
  let r := fetchByte s
  match opcodeCell r.1 with
  | .f1 i => (i, r.2)
  | .f2 i =>
    if (i 0).isSlot s.cfg then (i (lookAhead 0 r.2), r.2)
    else
      let q := fetchByte r.2
      (i q.1, q.2)
  | .f3 i =>
    if (i 0).isSlot s.cfg then (i (addrOf (lookAhead 0 r.2) (lookAhead 1 r.2)), r.2)
    else
      let q := fetchByte r.2
      if (i 0).mnemonic = .JSR then (i (addrOf q.1 (lookAhead 0 q.2)), q.2)
      else
        let q2 := fetchByte q.2
        (i (addrOf q.1 q2.1), q2.2)

/-! ### Taking an interrupt -/

/-- The three sequences that share the interrupt entry (60_exceptions.md R420). -/
inductive EntryKind | brk | irq | nmi
  deriving DecidableEq, Repr

/-- The break field a sequence pushes: 11 for BRK, 10 for IRQ and NMI (10_state.md R47, 60_exceptions.md R420). -/
def EntryKind.breakField : EntryKind → Byte
  | .brk => 0x30
  | .irq => 0x20
  | .nmi => 0x20

/-- The first part of `Enter(kind)`: the suppressed fetch, the three pushes, I set (60_exceptions.md R420). -/
def enterPush (kind : EntryKind) (s : State) : State :=
  let s0 :=
    match kind with
    | .brk => s
    | .irq => tick (tick s)
    | .nmi => tick (tick s)
  let s1 := push (hiByte s0.regs.pc) s0
  let s2 := push (loByte s1.regs.pc) s1
  let s3 := push (s2.regs.p.toByte ||| kind.breakField) s2
  setFlags (fun p => { p with i := true }) s3

/-- The vector a sequence reads, decided after the status push: a pending NMI takes over an IRQ or BRK sequence
(60_exceptions.md R420, R421, R423). -/
def entryVector (kind : EntryKind) (nmiPending : Bool) : Addr :=
  match kind with
  | .nmi => 0xFFFA#16
  | .brk => if nmiPending then 0xFFFA#16 else 0xFFFE#16
  | .irq => if nmiPending then 0xFFFA#16 else 0xFFFE#16

/-- Read a vector, low byte first, and load PC from it (60_exceptions.md R420; 20_memory.md R161). -/
def loadVector (vec : Addr) (s : State) : State :=
  let lo := memRead vec s
  let hi := memRead (vec + 1) lo.2
  setPc (addrOf lo.1 hi.1) hi.2

/-- `Enter(kind)`: TAKING AN INTERRUPT, shared by BRK, IRQ and NMI (60_exceptions.md R420 to R423). -/
def enterInterrupt (kind : EntryKind) (s : State) : State :=
  let s1 := enterPush kind s
  let vec := entryVector kind s1.nmiPending
  loadVector vec { s1 with nmiPending := if vec = 0xFFFA#16 then false else s1.nmiPending }

/-- The return from an interrupt, RTI without its two internal cycles: P, then PC low and high; no 1 is added
(60_exceptions.md R424, 44_control_flow.md R352). -/
def returnFromInterrupt (s : State) : State :=
  let p := pull s
  let s1 := setFlags (fun _ => Flags.ofByte p.1) p.2
  let lo := pull s1
  let hi := pull lo.2
  setPc (addrOf lo.1 hi.1) hi.2

/-- The interrupt check entered an interrupt: `Enter(kind); i_poll <- 1; prev_cli <- 0` (60_exceptions.md R413). -/
def takeInterrupt (kind : EntryKind) (s : State) : State :=
  let s1 := enterInterrupt kind s
  { s1 with iPoll := true, prevCli := false }

/-- `Check(op)` (60_exceptions.md R413, R415). -/
def interruptCheck (m : Mnemonic) (s : State) : State :=
  if m = .BRK then { s with prevCli := false }
  else
    let suppress := m == .RTI && s.prevCli
    let s1 := { s with prevCli := m == .CLI }
    if s1.nmiPending then takeInterrupt .nmi s1
    else if irqLine s1 && !s1.iPoll && !suppress then takeInterrupt .irq s1
    else s1

/-! ### OAM DMA -/

/-- `k` read and write pairs of the OAM DMA from page byte 256 - k on (61_ppu.md R520). -/
def oamDmaLoop (page : Byte) : Nat → State → State
  | 0, s => s
  | k + 1, s =>
    let r := memRead (page ++ BitVec.ofNat 8 (255 - k)) s
    oamDmaLoop page k (memWrite 0x2004#16 r.1 r.2)

/-- `OamDma()` from a page: a halt cycle, an alignment cycle if the first DMA cycle's number is odd, 256 pairs
(61_ppu.md R520). -/
def oamDma (page : Byte) (s : State) : State :=
  let s0 := { s with oamDmaPage := none }
  let s1 := tick s0
  let s2 := if s.cycles % 2 = 1 then tick s1 else s1
  oamDmaLoop page 256 s2

/-- The OAM DMA the instruction requested, if it did (60_exceptions.md R410). -/
def runOamDma (s : State) : State :=
  match s.oamDmaPage with
  | some page => oamDma page s
  | none => s

/-! ### The end of a step, and the fault -/

/-- The I value the next IRQ check uses (60_exceptions.md R414). -/
def pollFlag (m : Mnemonic) (iBefore : Bool) (s : State) : State :=
  { s with iPoll := if s.cfg.lateISet.contains m then iBefore else s.regs.p.i }

/-- A step ends in the state, unless a stall of the step never ends (20_memory.md R133; log entry 6). -/
def settle (s : State) : Host.Outcome State Fault Refusal :=
  if s.hung then .fault (.endlessStall s) else .next s

/-- What a step does after the instruction: nothing after a JAM, else OAM DMA, the poll flag, the interrupt check
(60_exceptions.md R410). -/
def finishStep (m : Mnemonic) (iBefore : Bool) (s : State) : State :=
  if m = .JAM then s else interruptCheck m (pollFlag m iBefore (runOamDma s))

/-- `raise Fault(UnimplementedOpcode)` (46_undocumented.md R391, 00_scope.md R17, 60_exceptions.md R440). -/
def raiseUnimplemented (s : State) : Host.Outcome State Fault Refusal :=
  .fault (.unimplementedOpcode { s with fault := some .unimplementedOpcode })

end Sys2Proof.Machine
end

