-- ==== Sys2Proof/Machine/Operands.lean ====
section
/-!
DEFINITION. Every operand form: the addressing modes with their cycles (40_addressing_modes.md R241 to R253), the three
access classes (R254 to R256), the branch (R253, R340), and the operand of each instruction. The operand bytes have been
fetched when an instruction executes, so PC is past them (JSR and the unimplemented slots apart, DEDUCED, log entry 8).
-/

namespace Sys2Proof.Machine

/-- The cycle class of an access, which decides the indexed modes' extra tick (40_addressing_modes.md R248, R254 to
R256). -/
inductive AccessClass | read | write | rmw
  deriving DecidableEq, Repr

/-- The modes that have an effective address, with their operand bytes (40_addressing_modes.md R244 to R249, R251,
R252). -/
inductive EaMode
  | zp (b : Byte)
  | zpx (b : Byte)
  | zpy (b : Byte)
  | abs (w : Addr)
  | abx (w : Addr)
  | aby (w : Addr)
  | izx (b : Byte)
  | izy (b : Byte)
  deriving DecidableEq, Repr

/-- `hi(EA) != hi(base)` (40_addressing_modes.md R257). -/
def pageCrossed (base ea : Addr) : Bool := hiByte ea != hiByte base

/-- An index is added to a base address, with the extra tick of the class: on a page crossing for a read, always for a
write or a read-modify-write (40_addressing_modes.md R248, R249, R252). -/
def indexedAddress (cls : AccessClass) (base : Addr) (index : Byte) (s : State) : Addr × State :=
  let ea := base + zext16 index
  match cls with
  | .read => (ea, if pageCrossed base ea then tick s else s)
  | .write => (ea, tick s)
  | .rmw => (ea, tick s)

/-- A zero-page pointer is read, low byte first; its second byte's address wraps inside page 0 (40_addressing_modes.md
R251, R252). -/
def zpPointer (p : Byte) (s : State) : Addr × State :=
  let lo := memRead (zext16 p) s
  let hi := memRead (zext16 (p + 1)) lo.2
  (addrOf lo.1 hi.1, hi.2)

/-- `Addr(mode, class)`: the effective address and the state after the address cycles (40_addressing_modes.md R240,
R244 to R252). -/
def effectiveAddress (cls : AccessClass) (m : EaMode) (s : State) : Addr × State :=
  match m with
  | .zp b => (zext16 b, s)
  | .zpx b => (zext16 (b + s.regs.x), tick s)
  | .zpy b => (zext16 (b + s.regs.y), tick s)
  | .abs w => (w, s)
  | .abx w => indexedAddress cls w s.regs.x s
  | .aby w => indexedAddress cls w s.regs.y s
  | .izx b => zpPointer (b + s.regs.x) (tick s)
  | .izy b =>
    let base := zpPointer b s
    indexedAddress cls base.1 base.2.regs.y base.2

/-- The operand read of the read class: the address cycles, then one read (40_addressing_modes.md R254). -/
def readOperand (m : EaMode) (s : State) : Byte × State :=
  let ea := effectiveAddress .read m s
  memRead ea.1 ea.2

/-- The JMP indirect target, with the page-wrap bug: the pointer's carry does not reach its high byte
(40_addressing_modes.md R250). -/
def indirectTarget (w : Addr) (s : State) : Addr × State :=
  let lo := memRead w s
  let hi := memRead (addrOf (loByte w + 1) (hiByte w)) lo.2
  (addrOf lo.1 hi.1, hi.2)

/-! ### The access classes, over an operation on the registers -/

/-- Read class, immediate operand: the operand byte is the instruction's (40_addressing_modes.md R243, R254). -/
def runImmediate (op : Byte → Regs → Regs) (m : Byte) (s : State) : Host.Outcome State Fault Refusal :=
  .next (setRegs (op m) s)

/-- Read class, memory operand (40_addressing_modes.md R254). -/
def runRead (op : Byte → Regs → Regs) (m : EaMode) (s : State) : Host.Outcome State Fault Refusal :=
  let r := readOperand m s
  .next (setRegs (op r.1) r.2)

/-- Write class: the write is the last cycle (40_addressing_modes.md R255). -/
def runWrite (value : Regs → Byte) (m : EaMode) (s : State) : Host.Outcome State Fault Refusal :=
  let ea := effectiveAddress .write m s
  .next (memWrite ea.1 (value ea.2.regs) ea.2)

/-- The read-modify-write sequence: read, the write-back tick, the operation, the write of the final value
(40_addressing_modes.md R256). -/
def modifyMemory (op : Byte → Regs → Byte × Regs) (m : EaMode) (s : State) : State :=
  let ea := effectiveAddress .rmw m s
  let r := memRead ea.1 ea.2
  let s1 := tick r.2
  let q := op r.1 s1.regs
  memWrite ea.1 q.1 (setRegs (fun _ => q.2) s1)

/-- Read-modify-write class (40_addressing_modes.md R256). -/
def runModify (op : Byte → Regs → Byte × Regs) (m : EaMode) (s : State) : Host.Outcome State Fault Refusal :=
  .next (modifyMemory op m s)

/-- The accumulator mode of a read-modify-write operation, in one tick (40_addressing_modes.md R242, R256). -/
def runAccumulator (op : Byte → Regs → Byte × Regs) (s : State) : Host.Outcome State Fault Refusal :=
  .next (setRegs (fun r => { (op r.a r).2 with a := (op r.a r).1 }) (tick s))

/-- An implied-mode operation, in one tick (40_addressing_modes.md R241). -/
def runImplied (op : Regs → Regs) (s : State) : Host.Outcome State Fault Refusal :=
  .next (setRegs op (tick s))

/-- The branch target: the offset is added to the address after the branch (40_addressing_modes.md R253). -/
def branchTarget (pc : Addr) (off : Byte) : Addr := pc + sext16 off

/-- A taken branch: one tick, one more across a page, then PC (40_addressing_modes.md R253). -/
def takeBranch (off : Byte) (s : State) : State :=
  let target := branchTarget s.regs.pc off
  setPc target (if pageCrossed s.regs.pc target then tick (tick s) else tick s)

/-- `Branch(condition)` (44_control_flow.md R340). -/
def runBranch (condition : Flags → Bool) (off : Byte) (s : State) : Host.Outcome State Fault Refusal :=
  .next (if condition s.regs.p then takeBranch off s else s)

/-- A conditional operation of an optional stable opcode: it runs with `EXTRA_UNOFFICIAL`, else it is an unimplemented
slot (46_undocumented.md R391). -/
def runOptional (run : State → Host.Outcome State Fault Refusal) (s : State) : Host.Outcome State Fault Refusal :=
  if s.cfg.extraUnofficial then run s else raiseUnimplemented s

end Sys2Proof.Machine
end

