-- ==== Sys2Proof/Machine/Arith.lean ====
section
/-!
DEFINITION. Arithmetic, logic, compare, increment (42_arithmetic_logic.md R300 to R316).
-/

namespace Sys2Proof.Machine

/-! ### Add and subtract -/

/-- ADC: `A <- AddC(A, M, P.C)`; D has no effect (R301, R302). -/
def opAdc (m : Byte) (r : Regs) : Regs :=
  { r with a := addCResult r.a m r.p.c, p := r.p.addC r.a m }

/-- 0x61 ADC izx 6 (R302). -/
def execAdcIzx (zp : Byte) : State → Host.Outcome State Fault Refusal :=
  runRead opAdc (.izx zp)

/-- 0x65 ADC zp 3 (R302). -/
def execAdcZp (zp : Byte) : State → Host.Outcome State Fault Refusal :=
  runRead opAdc (.zp zp)

/-- 0x69 ADC imm 2 (R302). -/
def execAdcImm (imm : Byte) : State → Host.Outcome State Fault Refusal :=
  runImmediate opAdc imm

/-- 0x6D ADC abs 4 (R302). -/
def execAdcAbs (addr : Addr) : State → Host.Outcome State Fault Refusal :=
  runRead opAdc (.abs addr)

/-- 0x71 ADC izy 5+1 (R302). -/
def execAdcIzy (zp : Byte) : State → Host.Outcome State Fault Refusal :=
  runRead opAdc (.izy zp)

/-- 0x75 ADC zpx 4 (R302). -/
def execAdcZpx (zp : Byte) : State → Host.Outcome State Fault Refusal :=
  runRead opAdc (.zpx zp)

/-- 0x79 ADC aby 4+1 (R302). -/
def execAdcAby (addr : Addr) : State → Host.Outcome State Fault Refusal :=
  runRead opAdc (.aby addr)

/-- 0x7D ADC abx 4+1 (R302). -/
def execAdcAbx (addr : Addr) : State → Host.Outcome State Fault Refusal :=
  runRead opAdc (.abx addr)

/-- SBC: `A <- SubC(A, M)`, the sum with the complement (R300, R303). -/
def opSbc (m : Byte) (r : Regs) : Regs :=
  opAdc (m ^^^ 0xFF) r

/-- 0xE1 SBC izx 6 (R303). -/
def execSbcIzx (zp : Byte) : State → Host.Outcome State Fault Refusal :=
  runRead opSbc (.izx zp)

/-- 0xE5 SBC zp 3 (R303). -/
def execSbcZp (zp : Byte) : State → Host.Outcome State Fault Refusal :=
  runRead opSbc (.zp zp)

/-- 0xE9 SBC imm 2 (R303). -/
def execSbcImm (imm : Byte) : State → Host.Outcome State Fault Refusal :=
  runImmediate opSbc imm

/-- 0xED SBC abs 4 (R303). -/
def execSbcAbs (addr : Addr) : State → Host.Outcome State Fault Refusal :=
  runRead opSbc (.abs addr)

/-- 0xF1 SBC izy 5+1 (R303). -/
def execSbcIzy (zp : Byte) : State → Host.Outcome State Fault Refusal :=
  runRead opSbc (.izy zp)

/-- 0xF5 SBC zpx 4 (R303). -/
def execSbcZpx (zp : Byte) : State → Host.Outcome State Fault Refusal :=
  runRead opSbc (.zpx zp)

/-- 0xF9 SBC aby 4+1 (R303). -/
def execSbcAby (addr : Addr) : State → Host.Outcome State Fault Refusal :=
  runRead opSbc (.aby addr)

/-- 0xFD SBC abx 4+1 (R303). -/
def execSbcAbx (addr : Addr) : State → Host.Outcome State Fault Refusal :=
  runRead opSbc (.abx addr)

/-! ### Logic -/

/-- AND: the accumulator becomes the combination, and SetNZ (R304). -/
def opAnd (m : Byte) (r : Regs) : Regs :=
  { r with a := r.a &&& m, p := r.p.setNZ (r.a &&& m) }

/-- 0x21 AND izx 6 (R304). -/
def execAndIzx (zp : Byte) : State → Host.Outcome State Fault Refusal :=
  runRead opAnd (.izx zp)

/-- 0x25 AND zp 3 (R304). -/
def execAndZp (zp : Byte) : State → Host.Outcome State Fault Refusal :=
  runRead opAnd (.zp zp)

/-- 0x29 AND imm 2 (R304). -/
def execAndImm (imm : Byte) : State → Host.Outcome State Fault Refusal :=
  runImmediate opAnd imm

/-- 0x2D AND abs 4 (R304). -/
def execAndAbs (addr : Addr) : State → Host.Outcome State Fault Refusal :=
  runRead opAnd (.abs addr)

/-- 0x31 AND izy 5+1 (R304). -/
def execAndIzy (zp : Byte) : State → Host.Outcome State Fault Refusal :=
  runRead opAnd (.izy zp)

/-- 0x35 AND zpx 4 (R304). -/
def execAndZpx (zp : Byte) : State → Host.Outcome State Fault Refusal :=
  runRead opAnd (.zpx zp)

/-- 0x39 AND aby 4+1 (R304). -/
def execAndAby (addr : Addr) : State → Host.Outcome State Fault Refusal :=
  runRead opAnd (.aby addr)

/-- 0x3D AND abx 4+1 (R304). -/
def execAndAbx (addr : Addr) : State → Host.Outcome State Fault Refusal :=
  runRead opAnd (.abx addr)

/-- ORA: the accumulator becomes the combination, and SetNZ (R305). -/
def opOra (m : Byte) (r : Regs) : Regs :=
  { r with a := r.a ||| m, p := r.p.setNZ (r.a ||| m) }

/-- 0x01 ORA izx 6 (R305). -/
def execOraIzx (zp : Byte) : State → Host.Outcome State Fault Refusal :=
  runRead opOra (.izx zp)

/-- 0x05 ORA zp 3 (R305). -/
def execOraZp (zp : Byte) : State → Host.Outcome State Fault Refusal :=
  runRead opOra (.zp zp)

/-- 0x09 ORA imm 2 (R305). -/
def execOraImm (imm : Byte) : State → Host.Outcome State Fault Refusal :=
  runImmediate opOra imm

/-- 0x0D ORA abs 4 (R305). -/
def execOraAbs (addr : Addr) : State → Host.Outcome State Fault Refusal :=
  runRead opOra (.abs addr)

/-- 0x11 ORA izy 5+1 (R305). -/
def execOraIzy (zp : Byte) : State → Host.Outcome State Fault Refusal :=
  runRead opOra (.izy zp)

/-- 0x15 ORA zpx 4 (R305). -/
def execOraZpx (zp : Byte) : State → Host.Outcome State Fault Refusal :=
  runRead opOra (.zpx zp)

/-- 0x19 ORA aby 4+1 (R305). -/
def execOraAby (addr : Addr) : State → Host.Outcome State Fault Refusal :=
  runRead opOra (.aby addr)

/-- 0x1D ORA abx 4+1 (R305). -/
def execOraAbx (addr : Addr) : State → Host.Outcome State Fault Refusal :=
  runRead opOra (.abx addr)

/-- EOR: the accumulator becomes the combination, and SetNZ (R306). -/
def opEor (m : Byte) (r : Regs) : Regs :=
  { r with a := r.a ^^^ m, p := r.p.setNZ (r.a ^^^ m) }

/-- 0x41 EOR izx 6 (R306). -/
def execEorIzx (zp : Byte) : State → Host.Outcome State Fault Refusal :=
  runRead opEor (.izx zp)

/-- 0x45 EOR zp 3 (R306). -/
def execEorZp (zp : Byte) : State → Host.Outcome State Fault Refusal :=
  runRead opEor (.zp zp)

/-- 0x49 EOR imm 2 (R306). -/
def execEorImm (imm : Byte) : State → Host.Outcome State Fault Refusal :=
  runImmediate opEor imm

/-- 0x4D EOR abs 4 (R306). -/
def execEorAbs (addr : Addr) : State → Host.Outcome State Fault Refusal :=
  runRead opEor (.abs addr)

/-- 0x51 EOR izy 5+1 (R306). -/
def execEorIzy (zp : Byte) : State → Host.Outcome State Fault Refusal :=
  runRead opEor (.izy zp)

/-- 0x55 EOR zpx 4 (R306). -/
def execEorZpx (zp : Byte) : State → Host.Outcome State Fault Refusal :=
  runRead opEor (.zpx zp)

/-- 0x59 EOR aby 4+1 (R306). -/
def execEorAby (addr : Addr) : State → Host.Outcome State Fault Refusal :=
  runRead opEor (.aby addr)

/-- 0x5D EOR abx 4+1 (R306). -/
def execEorAbx (addr : Addr) : State → Host.Outcome State Fault Refusal :=
  runRead opEor (.abx addr)

/-! ### Compare and bit test -/

/-- CMP: `Cmp(A, M)` (R307). -/
def opCmp (m : Byte) (r : Regs) : Regs :=
  { r with p := r.p.cmp r.a m }

/-- 0xC1 CMP izx 6 (R307). -/
def execCmpIzx (zp : Byte) : State → Host.Outcome State Fault Refusal :=
  runRead opCmp (.izx zp)

/-- 0xC5 CMP zp 3 (R307). -/
def execCmpZp (zp : Byte) : State → Host.Outcome State Fault Refusal :=
  runRead opCmp (.zp zp)

/-- 0xC9 CMP imm 2 (R307). -/
def execCmpImm (imm : Byte) : State → Host.Outcome State Fault Refusal :=
  runImmediate opCmp imm

/-- 0xCD CMP abs 4 (R307). -/
def execCmpAbs (addr : Addr) : State → Host.Outcome State Fault Refusal :=
  runRead opCmp (.abs addr)

/-- 0xD1 CMP izy 5+1 (R307). -/
def execCmpIzy (zp : Byte) : State → Host.Outcome State Fault Refusal :=
  runRead opCmp (.izy zp)

/-- 0xD5 CMP zpx 4 (R307). -/
def execCmpZpx (zp : Byte) : State → Host.Outcome State Fault Refusal :=
  runRead opCmp (.zpx zp)

/-- 0xD9 CMP aby 4+1 (R307). -/
def execCmpAby (addr : Addr) : State → Host.Outcome State Fault Refusal :=
  runRead opCmp (.aby addr)

/-- 0xDD CMP abx 4+1 (R307). -/
def execCmpAbx (addr : Addr) : State → Host.Outcome State Fault Refusal :=
  runRead opCmp (.abx addr)

/-- CPX: `Cmp(X, M)` (R308). -/
def opCpx (m : Byte) (r : Regs) : Regs :=
  { r with p := r.p.cmp r.x m }

/-- 0xE0 CPX imm 2 (R308). -/
def execCpxImm (imm : Byte) : State → Host.Outcome State Fault Refusal :=
  runImmediate opCpx imm

/-- 0xE4 CPX zp 3 (R308). -/
def execCpxZp (zp : Byte) : State → Host.Outcome State Fault Refusal :=
  runRead opCpx (.zp zp)

/-- 0xEC CPX abs 4 (R308). -/
def execCpxAbs (addr : Addr) : State → Host.Outcome State Fault Refusal :=
  runRead opCpx (.abs addr)

/-- CPY: `Cmp(Y, M)` (R309). -/
def opCpy (m : Byte) (r : Regs) : Regs :=
  { r with p := r.p.cmp r.y m }

/-- 0xC0 CPY imm 2 (R309). -/
def execCpyImm (imm : Byte) : State → Host.Outcome State Fault Refusal :=
  runImmediate opCpy imm

/-- 0xC4 CPY zp 3 (R309). -/
def execCpyZp (zp : Byte) : State → Host.Outcome State Fault Refusal :=
  runRead opCpy (.zp zp)

/-- 0xCC CPY abs 4 (R309). -/
def execCpyAbs (addr : Addr) : State → Host.Outcome State Fault Refusal :=
  runRead opCpy (.abs addr)

/-- BIT: Z from A and M, N and V from M[7] and M[6] (R310). -/
def opBit (m : Byte) (r : Regs) : Regs :=
  { r with p := { r.p with z := (r.a &&& m) == 0, n := m.getLsbD 7, v := m.getLsbD 6 } }

/-- 0x24 BIT zp 3 (R310). -/
def execBitZp (zp : Byte) : State → Host.Outcome State Fault Refusal :=
  runRead opBit (.zp zp)

/-- 0x2C BIT abs 4 (R310). -/
def execBitAbs (addr : Addr) : State → Host.Outcome State Fault Refusal :=
  runRead opBit (.abs addr)

/-! ### Increment and decrement -/

/-- INC: `R <- M + 1; SetNZ(R)` (R311). -/
def opInc (m : Byte) (r : Regs) : Byte × Regs :=
  (m + 1, { r with p := r.p.setNZ (m + 1) })

/-- 0xE6 INC zp 5 (R311). -/
def execIncZp (zp : Byte) : State → Host.Outcome State Fault Refusal :=
  runModify opInc (.zp zp)

/-- 0xEE INC abs 6 (R311). -/
def execIncAbs (addr : Addr) : State → Host.Outcome State Fault Refusal :=
  runModify opInc (.abs addr)

/-- 0xF6 INC zpx 6 (R311). -/
def execIncZpx (zp : Byte) : State → Host.Outcome State Fault Refusal :=
  runModify opInc (.zpx zp)

/-- 0xFE INC abx 7 (R311). -/
def execIncAbx (addr : Addr) : State → Host.Outcome State Fault Refusal :=
  runModify opInc (.abx addr)

/-- DEC: `R <- M - 1; SetNZ(R)` (R312). -/
def opDec (m : Byte) (r : Regs) : Byte × Regs :=
  (m - 1, { r with p := r.p.setNZ (m - 1) })

/-- 0xC6 DEC zp 5 (R312). -/
def execDecZp (zp : Byte) : State → Host.Outcome State Fault Refusal :=
  runModify opDec (.zp zp)

/-- 0xCE DEC abs 6 (R312). -/
def execDecAbs (addr : Addr) : State → Host.Outcome State Fault Refusal :=
  runModify opDec (.abs addr)

/-- 0xD6 DEC zpx 6 (R312). -/
def execDecZpx (zp : Byte) : State → Host.Outcome State Fault Refusal :=
  runModify opDec (.zpx zp)

/-- 0xDE DEC abx 7 (R312). -/
def execDecAbx (addr : Addr) : State → Host.Outcome State Fault Refusal :=
  runModify opDec (.abx addr)

/-- INX (R313). -/
def opInx (r : Regs) : Regs :=
  { r with x := r.x + 1, p := r.p.setNZ (r.x + 1) }

/-- 0xE8 INX imp 2 (R313). -/
def execInx : State → Host.Outcome State Fault Refusal :=
  runImplied opInx

/-- INY (R314). -/
def opIny (r : Regs) : Regs :=
  { r with y := r.y + 1, p := r.p.setNZ (r.y + 1) }

/-- 0xC8 INY imp 2 (R314). -/
def execIny : State → Host.Outcome State Fault Refusal :=
  runImplied opIny

/-- DEX (R315). -/
def opDex (r : Regs) : Regs :=
  { r with x := r.x - 1, p := r.p.setNZ (r.x - 1) }

/-- 0xCA DEX imp 2 (R315). -/
def execDex : State → Host.Outcome State Fault Refusal :=
  runImplied opDex

/-- DEY (R316). -/
def opDey (r : Regs) : Regs :=
  { r with y := r.y - 1, p := r.p.setNZ (r.y - 1) }

/-- 0x88 DEY imp 2 (R316). -/
def execDey : State → Host.Outcome State Fault Refusal :=
  runImplied opDey

end Sys2Proof.Machine
end

