-- ==== Sys2Proof/Machine/Control.lean ====
section
/-!
DEFINITION. Branches, jumps, subroutines, BRK, RTI and NOP (44_control_flow.md R340 to R354).
-/

namespace Sys2Proof.Machine

/-! ### Branches -/

/-- 0x90 BCC rel 2+2 (R341). -/
def execBccRel (off : Byte) : State → Host.Outcome State Fault Refusal :=
  runBranch (fun p => !p.c) off

/-- 0xB0 BCS rel 2+2 (R342). -/
def execBcsRel (off : Byte) : State → Host.Outcome State Fault Refusal :=
  runBranch (fun p => p.c) off

/-- 0xF0 BEQ rel 2+2 (R343). -/
def execBeqRel (off : Byte) : State → Host.Outcome State Fault Refusal :=
  runBranch (fun p => p.z) off

/-- 0xD0 BNE rel 2+2 (R344). -/
def execBneRel (off : Byte) : State → Host.Outcome State Fault Refusal :=
  runBranch (fun p => !p.z) off

/-- 0x30 BMI rel 2+2 (R345). -/
def execBmiRel (off : Byte) : State → Host.Outcome State Fault Refusal :=
  runBranch (fun p => p.n) off

/-- 0x10 BPL rel 2+2 (R346). -/
def execBplRel (off : Byte) : State → Host.Outcome State Fault Refusal :=
  runBranch (fun p => !p.n) off

/-- 0x50 BVC rel 2+2 (R347). -/
def execBvcRel (off : Byte) : State → Host.Outcome State Fault Refusal :=
  runBranch (fun p => !p.v) off

/-- 0x70 BVS rel 2+2 (R348). -/
def execBvsRel (off : Byte) : State → Host.Outcome State Fault Refusal :=
  runBranch (fun p => p.v) off

/-! ### Jumps and subroutines -/

/-- 0x4C JMP abs 3 (R349). -/
def execJmpAbs (addr : Addr) (s : State) : Host.Outcome State Fault Refusal :=
  .next (setPc addr s)

/-- 0x6C JMP ind 5 (R349). -/
def execJmpInd (addr : Addr) (s : State) : Host.Outcome State Fault Refusal :=
  let t := indirectTarget addr s
  .next (setPc t.1 t.2)

/-- JSR from the fetched low target byte on: an internal cycle, the return address pushed (PC is the address of the high
operand byte), the high target byte read after the pushes (R350). -/
def jumpSubroutine (lo : Byte) (s : State) : State :=
  let s1 := tick s
  let s2 := push (hiByte s1.regs.pc) s1
  let s3 := push (loByte s2.regs.pc) s2
  let hi := memRead s3.regs.pc s3
  setPc (addrOf lo hi.1) hi.2

/-- 0x20 JSR abs 6 (R350). The high byte of `addr` is what the bus held there at decode; the rule reads it again after
the pushes (DEDUCED, log entry 8). -/
def execJsrAbs (addr : Addr) (s : State) : Host.Outcome State Fault Refusal :=
  .next (jumpSubroutine (loByte addr) s)

/-- 0x60 RTS imp 6 (R351). -/
def execRts (s : State) : Host.Outcome State Fault Refusal :=
  let lo := pull (tick (tick s))
  let hi := pull lo.2
  .next (setPc (addrOf lo.1 hi.1 + 1) (tick hi.2))

/-! ### Interrupt entry and return, NOP -/

/-- 0x40 RTI imp 6 (R352). -/
def execRti (s : State) : Host.Outcome State Fault Refusal :=
  .next (returnFromInterrupt (tick (tick s)))

/-- 0x00 BRK imp 7: the padding byte is skipped in an internal cycle, then `Enter(brk)` (R353). -/
def execBrk (s : State) : Host.Outcome State Fault Refusal :=
  .next (enterInterrupt .brk (setRegs (fun r => { r with pc := r.pc + 1 }) (tick s)))

/-- 0xEA NOP imp 2 (R354). -/
def execNop (s : State) : Host.Outcome State Fault Refusal :=
  .next (tick s)

end Sys2Proof.Machine
end

