-- ==== Sys2Proof/Machine/LoadStore.lean ====
section
/-!
DEFINITION. Loads, stores and register transfers (41_load_store_transfer.md R280 to R291).
-/

namespace Sys2Proof.Machine

/-! ### Loads -/

/-- LDA: `A <- M; SetNZ(A)` (R280). -/
def opLda (m : Byte) (r : Regs) : Regs :=
  { r with a := m, p := r.p.setNZ m }

/-- 0xA1 LDA izx 6 (R280). -/
def execLdaIzx (zp : Byte) : State → Host.Outcome State Fault Refusal :=
  runRead opLda (.izx zp)

/-- 0xA5 LDA zp 3 (R280). -/
def execLdaZp (zp : Byte) : State → Host.Outcome State Fault Refusal :=
  runRead opLda (.zp zp)

/-- 0xA9 LDA imm 2 (R280). -/
def execLdaImm (imm : Byte) : State → Host.Outcome State Fault Refusal :=
  runImmediate opLda imm

/-- 0xAD LDA abs 4 (R280). -/
def execLdaAbs (addr : Addr) : State → Host.Outcome State Fault Refusal :=
  runRead opLda (.abs addr)

/-- 0xB1 LDA izy 5+1 (R280). -/
def execLdaIzy (zp : Byte) : State → Host.Outcome State Fault Refusal :=
  runRead opLda (.izy zp)

/-- 0xB5 LDA zpx 4 (R280). -/
def execLdaZpx (zp : Byte) : State → Host.Outcome State Fault Refusal :=
  runRead opLda (.zpx zp)

/-- 0xB9 LDA aby 4+1 (R280). -/
def execLdaAby (addr : Addr) : State → Host.Outcome State Fault Refusal :=
  runRead opLda (.aby addr)

/-- 0xBD LDA abx 4+1 (R280). -/
def execLdaAbx (addr : Addr) : State → Host.Outcome State Fault Refusal :=
  runRead opLda (.abx addr)

/-- LDX: `X <- M; SetNZ(X)` (R281). -/
def opLdx (m : Byte) (r : Regs) : Regs :=
  { r with x := m, p := r.p.setNZ m }

/-- 0xA2 LDX imm 2 (R281). -/
def execLdxImm (imm : Byte) : State → Host.Outcome State Fault Refusal :=
  runImmediate opLdx imm

/-- 0xA6 LDX zp 3 (R281). -/
def execLdxZp (zp : Byte) : State → Host.Outcome State Fault Refusal :=
  runRead opLdx (.zp zp)

/-- 0xAE LDX abs 4 (R281). -/
def execLdxAbs (addr : Addr) : State → Host.Outcome State Fault Refusal :=
  runRead opLdx (.abs addr)

/-- 0xB6 LDX zpy 4 (R281). -/
def execLdxZpy (zp : Byte) : State → Host.Outcome State Fault Refusal :=
  runRead opLdx (.zpy zp)

/-- 0xBE LDX aby 4+1 (R281). -/
def execLdxAby (addr : Addr) : State → Host.Outcome State Fault Refusal :=
  runRead opLdx (.aby addr)

/-- LDY: `Y <- M; SetNZ(Y)` (R282). -/
def opLdy (m : Byte) (r : Regs) : Regs :=
  { r with y := m, p := r.p.setNZ m }

/-- 0xA0 LDY imm 2 (R282). -/
def execLdyImm (imm : Byte) : State → Host.Outcome State Fault Refusal :=
  runImmediate opLdy imm

/-- 0xA4 LDY zp 3 (R282). -/
def execLdyZp (zp : Byte) : State → Host.Outcome State Fault Refusal :=
  runRead opLdy (.zp zp)

/-- 0xAC LDY abs 4 (R282). -/
def execLdyAbs (addr : Addr) : State → Host.Outcome State Fault Refusal :=
  runRead opLdy (.abs addr)

/-- 0xB4 LDY zpx 4 (R282). -/
def execLdyZpx (zp : Byte) : State → Host.Outcome State Fault Refusal :=
  runRead opLdy (.zpx zp)

/-- 0xBC LDY abx 4+1 (R282). -/
def execLdyAbx (addr : Addr) : State → Host.Outcome State Fault Refusal :=
  runRead opLdy (.abx addr)

/-! ### Stores -/

/-- 0x81 STA izx 6 (R283). -/
def execStaIzx (zp : Byte) : State → Host.Outcome State Fault Refusal :=
  runWrite Regs.a (.izx zp)

/-- 0x85 STA zp 3 (R283). -/
def execStaZp (zp : Byte) : State → Host.Outcome State Fault Refusal :=
  runWrite Regs.a (.zp zp)

/-- 0x8D STA abs 4 (R283). -/
def execStaAbs (addr : Addr) : State → Host.Outcome State Fault Refusal :=
  runWrite Regs.a (.abs addr)

/-- 0x91 STA izy 6 (R283). -/
def execStaIzy (zp : Byte) : State → Host.Outcome State Fault Refusal :=
  runWrite Regs.a (.izy zp)

/-- 0x95 STA zpx 4 (R283). -/
def execStaZpx (zp : Byte) : State → Host.Outcome State Fault Refusal :=
  runWrite Regs.a (.zpx zp)

/-- 0x99 STA aby 5 (R283). -/
def execStaAby (addr : Addr) : State → Host.Outcome State Fault Refusal :=
  runWrite Regs.a (.aby addr)

/-- 0x9D STA abx 5 (R283). -/
def execStaAbx (addr : Addr) : State → Host.Outcome State Fault Refusal :=
  runWrite Regs.a (.abx addr)

/-- 0x86 STX zp 3 (R284). -/
def execStxZp (zp : Byte) : State → Host.Outcome State Fault Refusal :=
  runWrite Regs.x (.zp zp)

/-- 0x8E STX abs 4 (R284). -/
def execStxAbs (addr : Addr) : State → Host.Outcome State Fault Refusal :=
  runWrite Regs.x (.abs addr)

/-- 0x96 STX zpy 4 (R284). -/
def execStxZpy (zp : Byte) : State → Host.Outcome State Fault Refusal :=
  runWrite Regs.x (.zpy zp)

/-- 0x84 STY zp 3 (R285). -/
def execStyZp (zp : Byte) : State → Host.Outcome State Fault Refusal :=
  runWrite Regs.y (.zp zp)

/-- 0x8C STY abs 4 (R285). -/
def execStyAbs (addr : Addr) : State → Host.Outcome State Fault Refusal :=
  runWrite Regs.y (.abs addr)

/-- 0x94 STY zpx 4 (R285). -/
def execStyZpx (zp : Byte) : State → Host.Outcome State Fault Refusal :=
  runWrite Regs.y (.zpx zp)

/-! ### Register transfers -/

/-- TAX: `X <- A; SetNZ(X)` (R286). -/
def opTax (r : Regs) : Regs :=
  { r with x := r.a, p := r.p.setNZ r.a }

/-- 0xAA TAX imp 2 (R286). -/
def execTax : State → Host.Outcome State Fault Refusal :=
  runImplied opTax

/-- TAY: `Y <- A; SetNZ(Y)` (R287). -/
def opTay (r : Regs) : Regs :=
  { r with y := r.a, p := r.p.setNZ r.a }

/-- 0xA8 TAY imp 2 (R287). -/
def execTay : State → Host.Outcome State Fault Refusal :=
  runImplied opTay

/-- TXA: `A <- X; SetNZ(A)` (R288). -/
def opTxa (r : Regs) : Regs :=
  { r with a := r.x, p := r.p.setNZ r.x }

/-- 0x8A TXA imp 2 (R288). -/
def execTxa : State → Host.Outcome State Fault Refusal :=
  runImplied opTxa

/-- TYA: `A <- Y; SetNZ(A)` (R289). -/
def opTya (r : Regs) : Regs :=
  { r with a := r.y, p := r.p.setNZ r.y }

/-- 0x98 TYA imp 2 (R289). -/
def execTya : State → Host.Outcome State Fault Refusal :=
  runImplied opTya

/-- TSX: `X <- S; SetNZ(X)` (R290). -/
def opTsx (r : Regs) : Regs :=
  { r with x := r.s, p := r.p.setNZ r.s }

/-- 0xBA TSX imp 2 (R290). -/
def execTsx : State → Host.Outcome State Fault Refusal :=
  runImplied opTsx

/-- TXS: `S <- X`, no flag (R291). -/
def opTxs (r : Regs) : Regs :=
  { r with s := r.x }

/-- 0x9A TXS imp 2 (R291). -/
def execTxs : State → Host.Outcome State Fault Refusal :=
  runImplied opTxs

end Sys2Proof.Machine
end

