-- ==== Sys2Proof/Machine/Shift.lean ====
section
/-!
DEFINITION. Shifts and rotates (43_shift_rotate.md R330 to R333).
-/

namespace Sys2Proof.Machine

/-- ASL: the shifted byte, C from the bit shifted out, SetNZ (R330). -/
def opAsl (m : Byte) (r : Regs) : Byte × Regs :=
  (aslByte m, { r with p := ({ r.p with c := m.getLsbD 7 } : Flags).setNZ (aslByte m) })

/-- 0x06 ASL zp 5 (R330). -/
def execAslZp (zp : Byte) : State → Host.Outcome State Fault Refusal :=
  runModify opAsl (.zp zp)

/-- 0x0A ASL acc 2 (R330). -/
def execAslAcc : State → Host.Outcome State Fault Refusal :=
  runAccumulator opAsl

/-- 0x0E ASL abs 6 (R330). -/
def execAslAbs (addr : Addr) : State → Host.Outcome State Fault Refusal :=
  runModify opAsl (.abs addr)

/-- 0x16 ASL zpx 6 (R330). -/
def execAslZpx (zp : Byte) : State → Host.Outcome State Fault Refusal :=
  runModify opAsl (.zpx zp)

/-- 0x1E ASL abx 7 (R330). -/
def execAslAbx (addr : Addr) : State → Host.Outcome State Fault Refusal :=
  runModify opAsl (.abx addr)

/-- LSR: the shifted byte, C from the bit shifted out, SetNZ (R331). -/
def opLsr (m : Byte) (r : Regs) : Byte × Regs :=
  (lsrByte m, { r with p := ({ r.p with c := m.getLsbD 0 } : Flags).setNZ (lsrByte m) })

/-- 0x46 LSR zp 5 (R331). -/
def execLsrZp (zp : Byte) : State → Host.Outcome State Fault Refusal :=
  runModify opLsr (.zp zp)

/-- 0x4A LSR acc 2 (R331). -/
def execLsrAcc : State → Host.Outcome State Fault Refusal :=
  runAccumulator opLsr

/-- 0x4E LSR abs 6 (R331). -/
def execLsrAbs (addr : Addr) : State → Host.Outcome State Fault Refusal :=
  runModify opLsr (.abs addr)

/-- 0x56 LSR zpx 6 (R331). -/
def execLsrZpx (zp : Byte) : State → Host.Outcome State Fault Refusal :=
  runModify opLsr (.zpx zp)

/-- 0x5E LSR abx 7 (R331). -/
def execLsrAbx (addr : Addr) : State → Host.Outcome State Fault Refusal :=
  runModify opLsr (.abx addr)

/-- ROL: the shifted byte, C from the bit shifted out, SetNZ (R332). -/
def opRol (m : Byte) (r : Regs) : Byte × Regs :=
  (rolByte r.p.c m, { r with p := ({ r.p with c := m.getLsbD 7 } : Flags).setNZ (rolByte r.p.c m) })

/-- 0x26 ROL zp 5 (R332). -/
def execRolZp (zp : Byte) : State → Host.Outcome State Fault Refusal :=
  runModify opRol (.zp zp)

/-- 0x2A ROL acc 2 (R332). -/
def execRolAcc : State → Host.Outcome State Fault Refusal :=
  runAccumulator opRol

/-- 0x2E ROL abs 6 (R332). -/
def execRolAbs (addr : Addr) : State → Host.Outcome State Fault Refusal :=
  runModify opRol (.abs addr)

/-- 0x36 ROL zpx 6 (R332). -/
def execRolZpx (zp : Byte) : State → Host.Outcome State Fault Refusal :=
  runModify opRol (.zpx zp)

/-- 0x3E ROL abx 7 (R332). -/
def execRolAbx (addr : Addr) : State → Host.Outcome State Fault Refusal :=
  runModify opRol (.abx addr)

/-- ROR: the shifted byte, C from the bit shifted out, SetNZ (R333). -/
def opRor (m : Byte) (r : Regs) : Byte × Regs :=
  (rorByte r.p.c m, { r with p := ({ r.p with c := m.getLsbD 0 } : Flags).setNZ (rorByte r.p.c m) })

/-- 0x66 ROR zp 5 (R333). -/
def execRorZp (zp : Byte) : State → Host.Outcome State Fault Refusal :=
  runModify opRor (.zp zp)

/-- 0x6A ROR acc 2 (R333). -/
def execRorAcc : State → Host.Outcome State Fault Refusal :=
  runAccumulator opRor

/-- 0x6E ROR abs 6 (R333). -/
def execRorAbs (addr : Addr) : State → Host.Outcome State Fault Refusal :=
  runModify opRor (.abs addr)

/-- 0x76 ROR zpx 6 (R333). -/
def execRorZpx (zp : Byte) : State → Host.Outcome State Fault Refusal :=
  runModify opRor (.zpx zp)

/-- 0x7E ROR abx 7 (R333). -/
def execRorAbx (addr : Addr) : State → Host.Outcome State Fault Refusal :=
  runModify opRor (.abx addr)

end Sys2Proof.Machine
end

