-- ==== Sys2Proof/Machine/Stack.lean ====
section
/-!
DEFINITION. Stack and flag instructions (45_stack_flags.md R360 to R370).
-/

namespace Sys2Proof.Machine

/-! ### Stack -/

/-- 0x48 PHA imp 3 (R360). -/
def execPha (s : State) : Host.Outcome State Fault Refusal :=
  let s1 := tick s
  .next (push s1.regs.a s1)

/-- 0x08 PHP imp 3: the pushed break field is 11 (R361). -/
def execPhp (s : State) : Host.Outcome State Fault Refusal :=
  let s1 := tick s
  .next (push (s1.regs.p.toByte ||| 0x30) s1)

/-- 0x68 PLA imp 4 (R362). -/
def execPla (s : State) : Host.Outcome State Fault Refusal :=
  let r := pull (tick (tick s))
  .next (setRegs (fun q => { q with a := r.1, p := q.p.setNZ r.1 }) r.2)

/-- 0x28 PLP imp 4 (R363). -/
def execPlp (s : State) : Host.Outcome State Fault Refusal :=
  let r := pull (tick (tick s))
  .next (setFlags (fun _ => Flags.ofByte r.1) r.2)

/-! ### Flags -/

/-- 0x18 CLC imp 2 (R364). -/
def execClc : State → Host.Outcome State Fault Refusal :=
  runImplied (fun r => { r with p := { r.p with c := false } })

/-- 0x38 SEC imp 2 (R365). -/
def execSec : State → Host.Outcome State Fault Refusal :=
  runImplied (fun r => { r with p := { r.p with c := true } })

/-- 0x58 CLI imp 2 (R366). -/
def execCli : State → Host.Outcome State Fault Refusal :=
  runImplied (fun r => { r with p := { r.p with i := false } })

/-- 0x78 SEI imp 2 (R367). -/
def execSei : State → Host.Outcome State Fault Refusal :=
  runImplied (fun r => { r with p := { r.p with i := true } })

/-- 0xD8 CLD imp 2 (R368). -/
def execCld : State → Host.Outcome State Fault Refusal :=
  runImplied (fun r => { r with p := { r.p with d := false } })

/-- 0xF8 SED imp 2 (R369). -/
def execSed : State → Host.Outcome State Fault Refusal :=
  runImplied (fun r => { r with p := { r.p with d := true } })

/-- 0xB8 CLV imp 2 (R370). -/
def execClv : State → Host.Outcome State Fault Refusal :=
  runImplied (fun r => { r with p := { r.p with v := false } })

end Sys2Proof.Machine
end

