-- ==== Sys2Proof/Machine/Undocumented.lean ====
section
/-!
DEFINITION. Undocumented opcodes, JAM and unimplemented slots (46_undocumented.md R380 to R402).
-/

namespace Sys2Proof.Machine

/-! ### Combined operations -/

/-- LAX: `A <- M; X <- M; SetNZ(M)` (R380). -/
def opLax (m : Byte) (r : Regs) : Regs :=
  { r with a := m, x := m, p := r.p.setNZ m }

/-- 0xA3 *LAX izx 6 (R380). -/
def execLaxIzx (zp : Byte) : State → Host.Outcome State Fault Refusal :=
  runRead opLax (.izx zp)

/-- 0xA7 *LAX zp 3 (R380). -/
def execLaxZp (zp : Byte) : State → Host.Outcome State Fault Refusal :=
  runRead opLax (.zp zp)

/-- 0xAF *LAX abs 4 (R380). -/
def execLaxAbs (addr : Addr) : State → Host.Outcome State Fault Refusal :=
  runRead opLax (.abs addr)

/-- 0xB3 *LAX izy 5+1 (R380). -/
def execLaxIzy (zp : Byte) : State → Host.Outcome State Fault Refusal :=
  runRead opLax (.izy zp)

/-- 0xB7 *LAX zpy 4 (R380). -/
def execLaxZpy (zp : Byte) : State → Host.Outcome State Fault Refusal :=
  runRead opLax (.zpy zp)

/-- 0xBF *LAX aby 4+1 (R380). -/
def execLaxAby (addr : Addr) : State → Host.Outcome State Fault Refusal :=
  runRead opLax (.aby addr)

/-- SAX: the value stored is A and X (R381). -/
def valueSax (r : Regs) : Byte :=
  r.a &&& r.x

/-- 0x83 *SAX izx 6 (R381). -/
def execSaxIzx (zp : Byte) : State → Host.Outcome State Fault Refusal :=
  runWrite valueSax (.izx zp)

/-- 0x87 *SAX zp 3 (R381). -/
def execSaxZp (zp : Byte) : State → Host.Outcome State Fault Refusal :=
  runWrite valueSax (.zp zp)

/-- 0x8F *SAX abs 4 (R381). -/
def execSaxAbs (addr : Addr) : State → Host.Outcome State Fault Refusal :=
  runWrite valueSax (.abs addr)

/-- 0x97 *SAX zpy 4 (R381). -/
def execSaxZpy (zp : Byte) : State → Host.Outcome State Fault Refusal :=
  runWrite valueSax (.zpy zp)

/-- 0xEB *SBC imm 2 (R382). -/
def execSbcImmEB (imm : Byte) : State → Host.Outcome State Fault Refusal :=
  runImmediate opSbc imm

/-- DCP: decrement, then compare with A (R383). -/
def opDcp (m : Byte) (r : Regs) : Byte × Regs :=
  (m - 1, { r with p := r.p.cmp r.a (m - 1) })

/-- 0xC3 *DCP izx 8 (R383). -/
def execDcpIzx (zp : Byte) : State → Host.Outcome State Fault Refusal :=
  runModify opDcp (.izx zp)

/-- 0xC7 *DCP zp 5 (R383). -/
def execDcpZp (zp : Byte) : State → Host.Outcome State Fault Refusal :=
  runModify opDcp (.zp zp)

/-- 0xCF *DCP abs 6 (R383). -/
def execDcpAbs (addr : Addr) : State → Host.Outcome State Fault Refusal :=
  runModify opDcp (.abs addr)

/-- 0xD3 *DCP izy 8 (R383). -/
def execDcpIzy (zp : Byte) : State → Host.Outcome State Fault Refusal :=
  runModify opDcp (.izy zp)

/-- 0xD7 *DCP zpx 6 (R383). -/
def execDcpZpx (zp : Byte) : State → Host.Outcome State Fault Refusal :=
  runModify opDcp (.zpx zp)

/-- 0xDB *DCP aby 7 (R383). -/
def execDcpAby (addr : Addr) : State → Host.Outcome State Fault Refusal :=
  runModify opDcp (.aby addr)

/-- 0xDF *DCP abx 7 (R383). -/
def execDcpAbx (addr : Addr) : State → Host.Outcome State Fault Refusal :=
  runModify opDcp (.abx addr)

/-- ISB: increment, then subtract from A (R384). -/
def opIsb (m : Byte) (r : Regs) : Byte × Regs :=
  (m + 1, opSbc (m + 1) r)

/-- 0xE3 *ISB izx 8 (R384). -/
def execIsbIzx (zp : Byte) : State → Host.Outcome State Fault Refusal :=
  runModify opIsb (.izx zp)

/-- 0xE7 *ISB zp 5 (R384). -/
def execIsbZp (zp : Byte) : State → Host.Outcome State Fault Refusal :=
  runModify opIsb (.zp zp)

/-- 0xEF *ISB abs 6 (R384). -/
def execIsbAbs (addr : Addr) : State → Host.Outcome State Fault Refusal :=
  runModify opIsb (.abs addr)

/-- 0xF3 *ISB izy 8 (R384). -/
def execIsbIzy (zp : Byte) : State → Host.Outcome State Fault Refusal :=
  runModify opIsb (.izy zp)

/-- 0xF7 *ISB zpx 6 (R384). -/
def execIsbZpx (zp : Byte) : State → Host.Outcome State Fault Refusal :=
  runModify opIsb (.zpx zp)

/-- 0xFB *ISB aby 7 (R384). -/
def execIsbAby (addr : Addr) : State → Host.Outcome State Fault Refusal :=
  runModify opIsb (.aby addr)

/-- 0xFF *ISB abx 7 (R384). -/
def execIsbAbx (addr : Addr) : State → Host.Outcome State Fault Refusal :=
  runModify opIsb (.abx addr)

/-- SLO: shift left, then OR into A (R385). -/
def opSlo (m : Byte) (r : Regs) : Byte × Regs :=
  ((opAsl m r).1, opOra (opAsl m r).1 (opAsl m r).2)

/-- 0x03 *SLO izx 8 (R385). -/
def execSloIzx (zp : Byte) : State → Host.Outcome State Fault Refusal :=
  runModify opSlo (.izx zp)

/-- 0x07 *SLO zp 5 (R385). -/
def execSloZp (zp : Byte) : State → Host.Outcome State Fault Refusal :=
  runModify opSlo (.zp zp)

/-- 0x0F *SLO abs 6 (R385). -/
def execSloAbs (addr : Addr) : State → Host.Outcome State Fault Refusal :=
  runModify opSlo (.abs addr)

/-- 0x13 *SLO izy 8 (R385). -/
def execSloIzy (zp : Byte) : State → Host.Outcome State Fault Refusal :=
  runModify opSlo (.izy zp)

/-- 0x17 *SLO zpx 6 (R385). -/
def execSloZpx (zp : Byte) : State → Host.Outcome State Fault Refusal :=
  runModify opSlo (.zpx zp)

/-- 0x1B *SLO aby 7 (R385). -/
def execSloAby (addr : Addr) : State → Host.Outcome State Fault Refusal :=
  runModify opSlo (.aby addr)

/-- 0x1F *SLO abx 7 (R385). -/
def execSloAbx (addr : Addr) : State → Host.Outcome State Fault Refusal :=
  runModify opSlo (.abx addr)

/-- RLA: rotate left, then AND into A (R386). -/
def opRla (m : Byte) (r : Regs) : Byte × Regs :=
  ((opRol m r).1, opAnd (opRol m r).1 (opRol m r).2)

/-- 0x23 *RLA izx 8 (R386). -/
def execRlaIzx (zp : Byte) : State → Host.Outcome State Fault Refusal :=
  runModify opRla (.izx zp)

/-- 0x27 *RLA zp 5 (R386). -/
def execRlaZp (zp : Byte) : State → Host.Outcome State Fault Refusal :=
  runModify opRla (.zp zp)

/-- 0x2F *RLA abs 6 (R386). -/
def execRlaAbs (addr : Addr) : State → Host.Outcome State Fault Refusal :=
  runModify opRla (.abs addr)

/-- 0x33 *RLA izy 8 (R386). -/
def execRlaIzy (zp : Byte) : State → Host.Outcome State Fault Refusal :=
  runModify opRla (.izy zp)

/-- 0x37 *RLA zpx 6 (R386). -/
def execRlaZpx (zp : Byte) : State → Host.Outcome State Fault Refusal :=
  runModify opRla (.zpx zp)

/-- 0x3B *RLA aby 7 (R386). -/
def execRlaAby (addr : Addr) : State → Host.Outcome State Fault Refusal :=
  runModify opRla (.aby addr)

/-- 0x3F *RLA abx 7 (R386). -/
def execRlaAbx (addr : Addr) : State → Host.Outcome State Fault Refusal :=
  runModify opRla (.abx addr)

/-- SRE: shift right, then EOR into A (R387). -/
def opSre (m : Byte) (r : Regs) : Byte × Regs :=
  ((opLsr m r).1, opEor (opLsr m r).1 (opLsr m r).2)

/-- 0x43 *SRE izx 8 (R387). -/
def execSreIzx (zp : Byte) : State → Host.Outcome State Fault Refusal :=
  runModify opSre (.izx zp)

/-- 0x47 *SRE zp 5 (R387). -/
def execSreZp (zp : Byte) : State → Host.Outcome State Fault Refusal :=
  runModify opSre (.zp zp)

/-- 0x4F *SRE abs 6 (R387). -/
def execSreAbs (addr : Addr) : State → Host.Outcome State Fault Refusal :=
  runModify opSre (.abs addr)

/-- 0x53 *SRE izy 8 (R387). -/
def execSreIzy (zp : Byte) : State → Host.Outcome State Fault Refusal :=
  runModify opSre (.izy zp)

/-- 0x57 *SRE zpx 6 (R387). -/
def execSreZpx (zp : Byte) : State → Host.Outcome State Fault Refusal :=
  runModify opSre (.zpx zp)

/-- 0x5B *SRE aby 7 (R387). -/
def execSreAby (addr : Addr) : State → Host.Outcome State Fault Refusal :=
  runModify opSre (.aby addr)

/-- 0x5F *SRE abx 7 (R387). -/
def execSreAbx (addr : Addr) : State → Host.Outcome State Fault Refusal :=
  runModify opSre (.abx addr)

/-- RRA: rotate right, then add to A with the bit rotated out (R388). -/
def opRra (m : Byte) (r : Regs) : Byte × Regs :=
  ((opRor m r).1, opAdc (opRor m r).1 (opRor m r).2)

/-- 0x63 *RRA izx 8 (R388). -/
def execRraIzx (zp : Byte) : State → Host.Outcome State Fault Refusal :=
  runModify opRra (.izx zp)

/-- 0x67 *RRA zp 5 (R388). -/
def execRraZp (zp : Byte) : State → Host.Outcome State Fault Refusal :=
  runModify opRra (.zp zp)

/-- 0x6F *RRA abs 6 (R388). -/
def execRraAbs (addr : Addr) : State → Host.Outcome State Fault Refusal :=
  runModify opRra (.abs addr)

/-- 0x73 *RRA izy 8 (R388). -/
def execRraIzy (zp : Byte) : State → Host.Outcome State Fault Refusal :=
  runModify opRra (.izy zp)

/-- 0x77 *RRA zpx 6 (R388). -/
def execRraZpx (zp : Byte) : State → Host.Outcome State Fault Refusal :=
  runModify opRra (.zpx zp)

/-- 0x7B *RRA aby 7 (R388). -/
def execRraAby (addr : Addr) : State → Host.Outcome State Fault Refusal :=
  runModify opRra (.aby addr)

/-- 0x7F *RRA abx 7 (R388). -/
def execRraAbx (addr : Addr) : State → Host.Outcome State Fault Refusal :=
  runModify opRra (.abx addr)

/-! ### Undocumented NOPs -/

/-- The discarded operand of a NOP (R389). -/
def opDiscard (_ : Byte) (r : Regs) : Regs := r

/-- 0x04 *NOP zp 3 (R389). -/
def execNopZp04 (zp : Byte) : State → Host.Outcome State Fault Refusal :=
  runRead opDiscard (.zp zp)

/-- 0x0C *NOP abs 4 (R389). -/
def execNopAbs (addr : Addr) : State → Host.Outcome State Fault Refusal :=
  runRead opDiscard (.abs addr)

/-- 0x14 *NOP zpx 4 (R389). -/
def execNopZpx14 (zp : Byte) : State → Host.Outcome State Fault Refusal :=
  runRead opDiscard (.zpx zp)

/-- 0x1A *NOP imp 2 (R389). -/
def execNop1A (s : State) : Host.Outcome State Fault Refusal :=
  .next (tick s)

/-- 0x1C *NOP abx 4+1 (R389). -/
def execNopAbx1C (addr : Addr) : State → Host.Outcome State Fault Refusal :=
  runRead opDiscard (.abx addr)

/-- 0x34 *NOP zpx 4 (R389). -/
def execNopZpx34 (zp : Byte) : State → Host.Outcome State Fault Refusal :=
  runRead opDiscard (.zpx zp)

/-- 0x3A *NOP imp 2 (R389). -/
def execNop3A (s : State) : Host.Outcome State Fault Refusal :=
  .next (tick s)

/-- 0x3C *NOP abx 4+1 (R389). -/
def execNopAbx3C (addr : Addr) : State → Host.Outcome State Fault Refusal :=
  runRead opDiscard (.abx addr)

/-- 0x44 *NOP zp 3 (R389). -/
def execNopZp44 (zp : Byte) : State → Host.Outcome State Fault Refusal :=
  runRead opDiscard (.zp zp)

/-- 0x54 *NOP zpx 4 (R389). -/
def execNopZpx54 (zp : Byte) : State → Host.Outcome State Fault Refusal :=
  runRead opDiscard (.zpx zp)

/-- 0x5A *NOP imp 2 (R389). -/
def execNop5A (s : State) : Host.Outcome State Fault Refusal :=
  .next (tick s)

/-- 0x5C *NOP abx 4+1 (R389). -/
def execNopAbx5C (addr : Addr) : State → Host.Outcome State Fault Refusal :=
  runRead opDiscard (.abx addr)

/-- 0x64 *NOP zp 3 (R389). -/
def execNopZp64 (zp : Byte) : State → Host.Outcome State Fault Refusal :=
  runRead opDiscard (.zp zp)

/-- 0x74 *NOP zpx 4 (R389). -/
def execNopZpx74 (zp : Byte) : State → Host.Outcome State Fault Refusal :=
  runRead opDiscard (.zpx zp)

/-- 0x7A *NOP imp 2 (R389). -/
def execNop7A (s : State) : Host.Outcome State Fault Refusal :=
  .next (tick s)

/-- 0x7C *NOP abx 4+1 (R389). -/
def execNopAbx7C (addr : Addr) : State → Host.Outcome State Fault Refusal :=
  runRead opDiscard (.abx addr)

/-- 0x80 *NOP imm 2 (R389). -/
def execNopImm80 (imm : Byte) : State → Host.Outcome State Fault Refusal :=
  runImmediate opDiscard imm

/-- 0x82 *NOP imm 2 (R389). -/
def execNopImm82 (imm : Byte) : State → Host.Outcome State Fault Refusal :=
  runImmediate opDiscard imm

/-- 0x89 *NOP imm 2 (R389). -/
def execNopImm89 (imm : Byte) : State → Host.Outcome State Fault Refusal :=
  runImmediate opDiscard imm

/-- 0xC2 *NOP imm 2 (R389). -/
def execNopImmC2 (imm : Byte) : State → Host.Outcome State Fault Refusal :=
  runImmediate opDiscard imm

/-- 0xD4 *NOP zpx 4 (R389). -/
def execNopZpxD4 (zp : Byte) : State → Host.Outcome State Fault Refusal :=
  runRead opDiscard (.zpx zp)

/-- 0xDA *NOP imp 2 (R389). -/
def execNopDA (s : State) : Host.Outcome State Fault Refusal :=
  .next (tick s)

/-- 0xDC *NOP abx 4+1 (R389). -/
def execNopAbxDC (addr : Addr) : State → Host.Outcome State Fault Refusal :=
  runRead opDiscard (.abx addr)

/-- 0xE2 *NOP imm 2 (R389). -/
def execNopImmE2 (imm : Byte) : State → Host.Outcome State Fault Refusal :=
  runImmediate opDiscard imm

/-- 0xF4 *NOP zpx 4 (R389). -/
def execNopZpxF4 (zp : Byte) : State → Host.Outcome State Fault Refusal :=
  runRead opDiscard (.zpx zp)

/-- 0xFA *NOP imp 2 (R389). -/
def execNopFA (s : State) : Host.Outcome State Fault Refusal :=
  .next (tick s)

/-- 0xFC *NOP abx 4+1 (R389). -/
def execNopAbxFC (addr : Addr) : State → Host.Outcome State Fault Refusal :=
  runRead opDiscard (.abx addr)

/-! ### JAM -/

/-- `trapped <- 1`, after the opcode fetch (R390). -/
def trapCpu (s : State) : State := { s with trapped := true }

/-- 0x02 *JAM imp 1 (R390). -/
def execJam02 (s : State) : Host.Outcome State Fault Refusal :=
  .next (trapCpu s)

/-- 0x12 *JAM imp 1 (R390). -/
def execJam12 (s : State) : Host.Outcome State Fault Refusal :=
  .next (trapCpu s)

/-- 0x22 *JAM imp 1 (R390). -/
def execJam22 (s : State) : Host.Outcome State Fault Refusal :=
  .next (trapCpu s)

/-- 0x32 *JAM imp 1 (R390). -/
def execJam32 (s : State) : Host.Outcome State Fault Refusal :=
  .next (trapCpu s)

/-- 0x42 *JAM imp 1 (R390). -/
def execJam42 (s : State) : Host.Outcome State Fault Refusal :=
  .next (trapCpu s)

/-- 0x52 *JAM imp 1 (R390). -/
def execJam52 (s : State) : Host.Outcome State Fault Refusal :=
  .next (trapCpu s)

/-- 0x62 *JAM imp 1 (R390). -/
def execJam62 (s : State) : Host.Outcome State Fault Refusal :=
  .next (trapCpu s)

/-- 0x72 *JAM imp 1 (R390). -/
def execJam72 (s : State) : Host.Outcome State Fault Refusal :=
  .next (trapCpu s)

/-- 0x92 *JAM imp 1 (R390). -/
def execJam92 (s : State) : Host.Outcome State Fault Refusal :=
  .next (trapCpu s)

/-- 0xB2 *JAM imp 1 (R390). -/
def execJamB2 (s : State) : Host.Outcome State Fault Refusal :=
  .next (trapCpu s)

/-- 0xD2 *JAM imp 1 (R390). -/
def execJamD2 (s : State) : Host.Outcome State Fault Refusal :=
  .next (trapCpu s)

/-- 0xF2 *JAM imp 1 (R390). -/
def execJamF2 (s : State) : Host.Outcome State Fault Refusal :=
  .next (trapCpu s)

/-! ### The optional stable opcodes (EXTRA_UNOFFICIAL) -/

/-- ANC: AND, then N into C (R392). -/
def opAnc (m : Byte) (r : Regs) : Regs :=
  { r with a := r.a &&& m, p := ({ r.p with c := (r.a &&& m).getLsbD 7 } : Flags).setNZ (r.a &&& m) }

/-- 0x0B *ANC imm 2 (R392). -/
def execAncImm0B (imm : Byte) : State → Host.Outcome State Fault Refusal :=
  runOptional (runImmediate opAnc imm)

/-- 0x2B *ANC imm 2 (R392). -/
def execAncImm2B (imm : Byte) : State → Host.Outcome State Fault Refusal :=
  runOptional (runImmediate opAnc imm)

/-- ALR: AND, then shift right (R393). -/
def opAlr (m : Byte) (r : Regs) : Regs :=
  { r with a := lsrByte (r.a &&& m)
           p := ({ r.p with c := (r.a &&& m).getLsbD 0 } : Flags).setNZ (lsrByte (r.a &&& m)) }

/-- 0x4B *ALR imm 2 (R393). -/
def execAlrImm (imm : Byte) : State → Host.Outcome State Fault Refusal :=
  runOptional (runImmediate opAlr imm)

/-- ARR: AND, then rotate right; C from bit 6 of the result, V from bits 6 and 5 (R394). -/
def opArr (m : Byte) (r : Regs) : Regs :=
  let a := rorByte r.p.c (r.a &&& m)
  { r with a := a, p := ({ r.p with c := a.getLsbD 6, v := a.getLsbD 6 ^^ a.getLsbD 5 } : Flags).setNZ a }

/-- 0x6B *ARR imm 2 (R394). -/
def execArrImm (imm : Byte) : State → Host.Outcome State Fault Refusal :=
  runOptional (runImmediate opArr imm)

/-- SBX: X becomes (A and X) - M, with the flags of a compare (R395). -/
def opSbx (m : Byte) (r : Regs) : Regs :=
  { r with x := (r.a &&& r.x) - m, p := r.p.cmp (r.a &&& r.x) m }

/-- 0xCB *SBX imm 2 (R395). -/
def execSbxImm (imm : Byte) : State → Host.Outcome State Fault Refusal :=
  runOptional (runImmediate opSbx imm)

/-- LAS: A, X and S become M and S (R396). -/
def opLas (m : Byte) (r : Regs) : Regs :=
  { r with a := m &&& r.s, x := m &&& r.s, s := m &&& r.s, p := r.p.setNZ (m &&& r.s) }

/-- 0xBB *LAS aby 4+1 (R396). -/
def execLasAby (addr : Addr) : State → Host.Outcome State Fault Refusal :=
  runOptional (runRead opLas (.aby addr))

/-! ### The unstable opcodes: always the fault of R391 -/

/-- 0x8B *XAA imm: always `Fault(UnimplementedOpcode)` (R397). -/
def execXaaImm (_ : Byte) (s : State) : Host.Outcome State Fault Refusal :=
  raiseUnimplemented s

/-- 0x93 *SHA izy: always `Fault(UnimplementedOpcode)` (R399). -/
def execShaIzy (_ : Byte) (s : State) : Host.Outcome State Fault Refusal :=
  raiseUnimplemented s

/-- 0x9B *TAS aby: always `Fault(UnimplementedOpcode)` (R402). -/
def execTasAby (_ : Addr) (s : State) : Host.Outcome State Fault Refusal :=
  raiseUnimplemented s

/-- 0x9C *SHY abx: always `Fault(UnimplementedOpcode)` (R401). -/
def execShyAbx (_ : Addr) (s : State) : Host.Outcome State Fault Refusal :=
  raiseUnimplemented s

/-- 0x9E *SHX aby: always `Fault(UnimplementedOpcode)` (R400). -/
def execShxAby (_ : Addr) (s : State) : Host.Outcome State Fault Refusal :=
  raiseUnimplemented s

/-- 0x9F *SHA aby: always `Fault(UnimplementedOpcode)` (R399). -/
def execShaAby (_ : Addr) (s : State) : Host.Outcome State Fault Refusal :=
  raiseUnimplemented s

/-- 0xAB *LXA imm: always `Fault(UnimplementedOpcode)` (R398). -/
def execLxaImm (_ : Byte) (s : State) : Host.Outcome State Fault Refusal :=
  raiseUnimplemented s

end Sys2Proof.Machine
end

