-- ==== Sys2Proof/Machine/Dispatch.lean ====
section
/-!
DEFINITION. The dispatch: one arm per instruction, in the opcode table's order (60_exceptions.md R411).
-/

namespace Sys2Proof.Machine

/-- `Execute(op)` (60_exceptions.md R411): the state is the one after the opcode and operand fetches. -/
def exec (i : Instr) (s : State) : Host.Outcome State Fault Refusal :=
  match i with
  | .brk => Sys2Proof.Machine.execBrk s
  | .oraIzx zp => Sys2Proof.Machine.execOraIzx zp s
  | .jam02 => Sys2Proof.Machine.execJam02 s
  | .sloIzx zp => Sys2Proof.Machine.execSloIzx zp s
  | .nopZp04 zp => Sys2Proof.Machine.execNopZp04 zp s
  | .oraZp zp => Sys2Proof.Machine.execOraZp zp s
  | .aslZp zp => Sys2Proof.Machine.execAslZp zp s
  | .sloZp zp => Sys2Proof.Machine.execSloZp zp s
  | .php => Sys2Proof.Machine.execPhp s
  | .oraImm imm => Sys2Proof.Machine.execOraImm imm s
  | .aslAcc => Sys2Proof.Machine.execAslAcc s
  | .ancImm0B imm => Sys2Proof.Machine.execAncImm0B imm s
  | .nopAbs addr => Sys2Proof.Machine.execNopAbs addr s
  | .oraAbs addr => Sys2Proof.Machine.execOraAbs addr s
  | .aslAbs addr => Sys2Proof.Machine.execAslAbs addr s
  | .sloAbs addr => Sys2Proof.Machine.execSloAbs addr s
  | .bplRel off => Sys2Proof.Machine.execBplRel off s
  | .oraIzy zp => Sys2Proof.Machine.execOraIzy zp s
  | .jam12 => Sys2Proof.Machine.execJam12 s
  | .sloIzy zp => Sys2Proof.Machine.execSloIzy zp s
  | .nopZpx14 zp => Sys2Proof.Machine.execNopZpx14 zp s
  | .oraZpx zp => Sys2Proof.Machine.execOraZpx zp s
  | .aslZpx zp => Sys2Proof.Machine.execAslZpx zp s
  | .sloZpx zp => Sys2Proof.Machine.execSloZpx zp s
  | .clc => Sys2Proof.Machine.execClc s
  | .oraAby addr => Sys2Proof.Machine.execOraAby addr s
  | .nop1A => Sys2Proof.Machine.execNop1A s
  | .sloAby addr => Sys2Proof.Machine.execSloAby addr s
  | .nopAbx1C addr => Sys2Proof.Machine.execNopAbx1C addr s
  | .oraAbx addr => Sys2Proof.Machine.execOraAbx addr s
  | .aslAbx addr => Sys2Proof.Machine.execAslAbx addr s
  | .sloAbx addr => Sys2Proof.Machine.execSloAbx addr s
  | .jsrAbs addr => Sys2Proof.Machine.execJsrAbs addr s
  | .andIzx zp => Sys2Proof.Machine.execAndIzx zp s
  | .jam22 => Sys2Proof.Machine.execJam22 s
  | .rlaIzx zp => Sys2Proof.Machine.execRlaIzx zp s
  | .bitZp zp => Sys2Proof.Machine.execBitZp zp s
  | .andZp zp => Sys2Proof.Machine.execAndZp zp s
  | .rolZp zp => Sys2Proof.Machine.execRolZp zp s
  | .rlaZp zp => Sys2Proof.Machine.execRlaZp zp s
  | .plp => Sys2Proof.Machine.execPlp s
  | .andImm imm => Sys2Proof.Machine.execAndImm imm s
  | .rolAcc => Sys2Proof.Machine.execRolAcc s
  | .ancImm2B imm => Sys2Proof.Machine.execAncImm2B imm s
  | .bitAbs addr => Sys2Proof.Machine.execBitAbs addr s
  | .andAbs addr => Sys2Proof.Machine.execAndAbs addr s
  | .rolAbs addr => Sys2Proof.Machine.execRolAbs addr s
  | .rlaAbs addr => Sys2Proof.Machine.execRlaAbs addr s
  | .bmiRel off => Sys2Proof.Machine.execBmiRel off s
  | .andIzy zp => Sys2Proof.Machine.execAndIzy zp s
  | .jam32 => Sys2Proof.Machine.execJam32 s
  | .rlaIzy zp => Sys2Proof.Machine.execRlaIzy zp s
  | .nopZpx34 zp => Sys2Proof.Machine.execNopZpx34 zp s
  | .andZpx zp => Sys2Proof.Machine.execAndZpx zp s
  | .rolZpx zp => Sys2Proof.Machine.execRolZpx zp s
  | .rlaZpx zp => Sys2Proof.Machine.execRlaZpx zp s
  | .sec => Sys2Proof.Machine.execSec s
  | .andAby addr => Sys2Proof.Machine.execAndAby addr s
  | .nop3A => Sys2Proof.Machine.execNop3A s
  | .rlaAby addr => Sys2Proof.Machine.execRlaAby addr s
  | .nopAbx3C addr => Sys2Proof.Machine.execNopAbx3C addr s
  | .andAbx addr => Sys2Proof.Machine.execAndAbx addr s
  | .rolAbx addr => Sys2Proof.Machine.execRolAbx addr s
  | .rlaAbx addr => Sys2Proof.Machine.execRlaAbx addr s
  | .rti => Sys2Proof.Machine.execRti s
  | .eorIzx zp => Sys2Proof.Machine.execEorIzx zp s
  | .jam42 => Sys2Proof.Machine.execJam42 s
  | .sreIzx zp => Sys2Proof.Machine.execSreIzx zp s
  | .nopZp44 zp => Sys2Proof.Machine.execNopZp44 zp s
  | .eorZp zp => Sys2Proof.Machine.execEorZp zp s
  | .lsrZp zp => Sys2Proof.Machine.execLsrZp zp s
  | .sreZp zp => Sys2Proof.Machine.execSreZp zp s
  | .pha => Sys2Proof.Machine.execPha s
  | .eorImm imm => Sys2Proof.Machine.execEorImm imm s
  | .lsrAcc => Sys2Proof.Machine.execLsrAcc s
  | .alrImm imm => Sys2Proof.Machine.execAlrImm imm s
  | .jmpAbs addr => Sys2Proof.Machine.execJmpAbs addr s
  | .eorAbs addr => Sys2Proof.Machine.execEorAbs addr s
  | .lsrAbs addr => Sys2Proof.Machine.execLsrAbs addr s
  | .sreAbs addr => Sys2Proof.Machine.execSreAbs addr s
  | .bvcRel off => Sys2Proof.Machine.execBvcRel off s
  | .eorIzy zp => Sys2Proof.Machine.execEorIzy zp s
  | .jam52 => Sys2Proof.Machine.execJam52 s
  | .sreIzy zp => Sys2Proof.Machine.execSreIzy zp s
  | .nopZpx54 zp => Sys2Proof.Machine.execNopZpx54 zp s
  | .eorZpx zp => Sys2Proof.Machine.execEorZpx zp s
  | .lsrZpx zp => Sys2Proof.Machine.execLsrZpx zp s
  | .sreZpx zp => Sys2Proof.Machine.execSreZpx zp s
  | .cli => Sys2Proof.Machine.execCli s
  | .eorAby addr => Sys2Proof.Machine.execEorAby addr s
  | .nop5A => Sys2Proof.Machine.execNop5A s
  | .sreAby addr => Sys2Proof.Machine.execSreAby addr s
  | .nopAbx5C addr => Sys2Proof.Machine.execNopAbx5C addr s
  | .eorAbx addr => Sys2Proof.Machine.execEorAbx addr s
  | .lsrAbx addr => Sys2Proof.Machine.execLsrAbx addr s
  | .sreAbx addr => Sys2Proof.Machine.execSreAbx addr s
  | .rts => Sys2Proof.Machine.execRts s
  | .adcIzx zp => Sys2Proof.Machine.execAdcIzx zp s
  | .jam62 => Sys2Proof.Machine.execJam62 s
  | .rraIzx zp => Sys2Proof.Machine.execRraIzx zp s
  | .nopZp64 zp => Sys2Proof.Machine.execNopZp64 zp s
  | .adcZp zp => Sys2Proof.Machine.execAdcZp zp s
  | .rorZp zp => Sys2Proof.Machine.execRorZp zp s
  | .rraZp zp => Sys2Proof.Machine.execRraZp zp s
  | .pla => Sys2Proof.Machine.execPla s
  | .adcImm imm => Sys2Proof.Machine.execAdcImm imm s
  | .rorAcc => Sys2Proof.Machine.execRorAcc s
  | .arrImm imm => Sys2Proof.Machine.execArrImm imm s
  | .jmpInd addr => Sys2Proof.Machine.execJmpInd addr s
  | .adcAbs addr => Sys2Proof.Machine.execAdcAbs addr s
  | .rorAbs addr => Sys2Proof.Machine.execRorAbs addr s
  | .rraAbs addr => Sys2Proof.Machine.execRraAbs addr s
  | .bvsRel off => Sys2Proof.Machine.execBvsRel off s
  | .adcIzy zp => Sys2Proof.Machine.execAdcIzy zp s
  | .jam72 => Sys2Proof.Machine.execJam72 s
  | .rraIzy zp => Sys2Proof.Machine.execRraIzy zp s
  | .nopZpx74 zp => Sys2Proof.Machine.execNopZpx74 zp s
  | .adcZpx zp => Sys2Proof.Machine.execAdcZpx zp s
  | .rorZpx zp => Sys2Proof.Machine.execRorZpx zp s
  | .rraZpx zp => Sys2Proof.Machine.execRraZpx zp s
  | .sei => Sys2Proof.Machine.execSei s
  | .adcAby addr => Sys2Proof.Machine.execAdcAby addr s
  | .nop7A => Sys2Proof.Machine.execNop7A s
  | .rraAby addr => Sys2Proof.Machine.execRraAby addr s
  | .nopAbx7C addr => Sys2Proof.Machine.execNopAbx7C addr s
  | .adcAbx addr => Sys2Proof.Machine.execAdcAbx addr s
  | .rorAbx addr => Sys2Proof.Machine.execRorAbx addr s
  | .rraAbx addr => Sys2Proof.Machine.execRraAbx addr s
  | .nopImm80 imm => Sys2Proof.Machine.execNopImm80 imm s
  | .staIzx zp => Sys2Proof.Machine.execStaIzx zp s
  | .nopImm82 imm => Sys2Proof.Machine.execNopImm82 imm s
  | .saxIzx zp => Sys2Proof.Machine.execSaxIzx zp s
  | .styZp zp => Sys2Proof.Machine.execStyZp zp s
  | .staZp zp => Sys2Proof.Machine.execStaZp zp s
  | .stxZp zp => Sys2Proof.Machine.execStxZp zp s
  | .saxZp zp => Sys2Proof.Machine.execSaxZp zp s
  | .dey => Sys2Proof.Machine.execDey s
  | .nopImm89 imm => Sys2Proof.Machine.execNopImm89 imm s
  | .txa => Sys2Proof.Machine.execTxa s
  | .xaaImm imm => Sys2Proof.Machine.execXaaImm imm s
  | .styAbs addr => Sys2Proof.Machine.execStyAbs addr s
  | .staAbs addr => Sys2Proof.Machine.execStaAbs addr s
  | .stxAbs addr => Sys2Proof.Machine.execStxAbs addr s
  | .saxAbs addr => Sys2Proof.Machine.execSaxAbs addr s
  | .bccRel off => Sys2Proof.Machine.execBccRel off s
  | .staIzy zp => Sys2Proof.Machine.execStaIzy zp s
  | .jam92 => Sys2Proof.Machine.execJam92 s
  | .shaIzy zp => Sys2Proof.Machine.execShaIzy zp s
  | .styZpx zp => Sys2Proof.Machine.execStyZpx zp s
  | .staZpx zp => Sys2Proof.Machine.execStaZpx zp s
  | .stxZpy zp => Sys2Proof.Machine.execStxZpy zp s
  | .saxZpy zp => Sys2Proof.Machine.execSaxZpy zp s
  | .tya => Sys2Proof.Machine.execTya s
  | .staAby addr => Sys2Proof.Machine.execStaAby addr s
  | .txs => Sys2Proof.Machine.execTxs s
  | .tasAby addr => Sys2Proof.Machine.execTasAby addr s
  | .shyAbx addr => Sys2Proof.Machine.execShyAbx addr s
  | .staAbx addr => Sys2Proof.Machine.execStaAbx addr s
  | .shxAby addr => Sys2Proof.Machine.execShxAby addr s
  | .shaAby addr => Sys2Proof.Machine.execShaAby addr s
  | .ldyImm imm => Sys2Proof.Machine.execLdyImm imm s
  | .ldaIzx zp => Sys2Proof.Machine.execLdaIzx zp s
  | .ldxImm imm => Sys2Proof.Machine.execLdxImm imm s
  | .laxIzx zp => Sys2Proof.Machine.execLaxIzx zp s
  | .ldyZp zp => Sys2Proof.Machine.execLdyZp zp s
  | .ldaZp zp => Sys2Proof.Machine.execLdaZp zp s
  | .ldxZp zp => Sys2Proof.Machine.execLdxZp zp s
  | .laxZp zp => Sys2Proof.Machine.execLaxZp zp s
  | .tay => Sys2Proof.Machine.execTay s
  | .ldaImm imm => Sys2Proof.Machine.execLdaImm imm s
  | .tax => Sys2Proof.Machine.execTax s
  | .lxaImm imm => Sys2Proof.Machine.execLxaImm imm s
  | .ldyAbs addr => Sys2Proof.Machine.execLdyAbs addr s
  | .ldaAbs addr => Sys2Proof.Machine.execLdaAbs addr s
  | .ldxAbs addr => Sys2Proof.Machine.execLdxAbs addr s
  | .laxAbs addr => Sys2Proof.Machine.execLaxAbs addr s
  | .bcsRel off => Sys2Proof.Machine.execBcsRel off s
  | .ldaIzy zp => Sys2Proof.Machine.execLdaIzy zp s
  | .jamB2 => Sys2Proof.Machine.execJamB2 s
  | .laxIzy zp => Sys2Proof.Machine.execLaxIzy zp s
  | .ldyZpx zp => Sys2Proof.Machine.execLdyZpx zp s
  | .ldaZpx zp => Sys2Proof.Machine.execLdaZpx zp s
  | .ldxZpy zp => Sys2Proof.Machine.execLdxZpy zp s
  | .laxZpy zp => Sys2Proof.Machine.execLaxZpy zp s
  | .clv => Sys2Proof.Machine.execClv s
  | .ldaAby addr => Sys2Proof.Machine.execLdaAby addr s
  | .tsx => Sys2Proof.Machine.execTsx s
  | .lasAby addr => Sys2Proof.Machine.execLasAby addr s
  | .ldyAbx addr => Sys2Proof.Machine.execLdyAbx addr s
  | .ldaAbx addr => Sys2Proof.Machine.execLdaAbx addr s
  | .ldxAby addr => Sys2Proof.Machine.execLdxAby addr s
  | .laxAby addr => Sys2Proof.Machine.execLaxAby addr s
  | .cpyImm imm => Sys2Proof.Machine.execCpyImm imm s
  | .cmpIzx zp => Sys2Proof.Machine.execCmpIzx zp s
  | .nopImmC2 imm => Sys2Proof.Machine.execNopImmC2 imm s
  | .dcpIzx zp => Sys2Proof.Machine.execDcpIzx zp s
  | .cpyZp zp => Sys2Proof.Machine.execCpyZp zp s
  | .cmpZp zp => Sys2Proof.Machine.execCmpZp zp s
  | .decZp zp => Sys2Proof.Machine.execDecZp zp s
  | .dcpZp zp => Sys2Proof.Machine.execDcpZp zp s
  | .iny => Sys2Proof.Machine.execIny s
  | .cmpImm imm => Sys2Proof.Machine.execCmpImm imm s
  | .dex => Sys2Proof.Machine.execDex s
  | .sbxImm imm => Sys2Proof.Machine.execSbxImm imm s
  | .cpyAbs addr => Sys2Proof.Machine.execCpyAbs addr s
  | .cmpAbs addr => Sys2Proof.Machine.execCmpAbs addr s
  | .decAbs addr => Sys2Proof.Machine.execDecAbs addr s
  | .dcpAbs addr => Sys2Proof.Machine.execDcpAbs addr s
  | .bneRel off => Sys2Proof.Machine.execBneRel off s
  | .cmpIzy zp => Sys2Proof.Machine.execCmpIzy zp s
  | .jamD2 => Sys2Proof.Machine.execJamD2 s
  | .dcpIzy zp => Sys2Proof.Machine.execDcpIzy zp s
  | .nopZpxD4 zp => Sys2Proof.Machine.execNopZpxD4 zp s
  | .cmpZpx zp => Sys2Proof.Machine.execCmpZpx zp s
  | .decZpx zp => Sys2Proof.Machine.execDecZpx zp s
  | .dcpZpx zp => Sys2Proof.Machine.execDcpZpx zp s
  | .cld => Sys2Proof.Machine.execCld s
  | .cmpAby addr => Sys2Proof.Machine.execCmpAby addr s
  | .nopDA => Sys2Proof.Machine.execNopDA s
  | .dcpAby addr => Sys2Proof.Machine.execDcpAby addr s
  | .nopAbxDC addr => Sys2Proof.Machine.execNopAbxDC addr s
  | .cmpAbx addr => Sys2Proof.Machine.execCmpAbx addr s
  | .decAbx addr => Sys2Proof.Machine.execDecAbx addr s
  | .dcpAbx addr => Sys2Proof.Machine.execDcpAbx addr s
  | .cpxImm imm => Sys2Proof.Machine.execCpxImm imm s
  | .sbcIzx zp => Sys2Proof.Machine.execSbcIzx zp s
  | .nopImmE2 imm => Sys2Proof.Machine.execNopImmE2 imm s
  | .isbIzx zp => Sys2Proof.Machine.execIsbIzx zp s
  | .cpxZp zp => Sys2Proof.Machine.execCpxZp zp s
  | .sbcZp zp => Sys2Proof.Machine.execSbcZp zp s
  | .incZp zp => Sys2Proof.Machine.execIncZp zp s
  | .isbZp zp => Sys2Proof.Machine.execIsbZp zp s
  | .inx => Sys2Proof.Machine.execInx s
  | .sbcImm imm => Sys2Proof.Machine.execSbcImm imm s
  | .nop => Sys2Proof.Machine.execNop s
  | .sbcImmEB imm => Sys2Proof.Machine.execSbcImmEB imm s
  | .cpxAbs addr => Sys2Proof.Machine.execCpxAbs addr s
  | .sbcAbs addr => Sys2Proof.Machine.execSbcAbs addr s
  | .incAbs addr => Sys2Proof.Machine.execIncAbs addr s
  | .isbAbs addr => Sys2Proof.Machine.execIsbAbs addr s
  | .beqRel off => Sys2Proof.Machine.execBeqRel off s
  | .sbcIzy zp => Sys2Proof.Machine.execSbcIzy zp s
  | .jamF2 => Sys2Proof.Machine.execJamF2 s
  | .isbIzy zp => Sys2Proof.Machine.execIsbIzy zp s
  | .nopZpxF4 zp => Sys2Proof.Machine.execNopZpxF4 zp s
  | .sbcZpx zp => Sys2Proof.Machine.execSbcZpx zp s
  | .incZpx zp => Sys2Proof.Machine.execIncZpx zp s
  | .isbZpx zp => Sys2Proof.Machine.execIsbZpx zp s
  | .sed => Sys2Proof.Machine.execSed s
  | .sbcAby addr => Sys2Proof.Machine.execSbcAby addr s
  | .nopFA => Sys2Proof.Machine.execNopFA s
  | .isbAby addr => Sys2Proof.Machine.execIsbAby addr s
  | .nopAbxFC addr => Sys2Proof.Machine.execNopAbxFC addr s
  | .sbcAbx addr => Sys2Proof.Machine.execSbcAbx addr s
  | .incAbx addr => Sys2Proof.Machine.execIncAbx addr s
  | .isbAbx addr => Sys2Proof.Machine.execIsbAbx addr s

end Sys2Proof.Machine
end

