-- ==== Sys2Proof/Machine/Step.lean ====
section
/-!
DEFINITION. One step of the core (60_exceptions.md R410), and the placing of an instruction where the step fetches.
-/

namespace Sys2Proof.Machine

/-- `Step()` (60_exceptions.md R410, 00_scope.md R18): a faulted core takes no step; a trapped one runs an idle cycle;
else the instruction at PC is fetched and executed, then OAM DMA and the interrupt check follow. A stall that never
ends, in any of its cycles, stops the step (20_memory.md R133; log entry 6). -/
def step (s : State) : Host.Outcome State Fault Refusal :=
  match s.fault with
  | some kind => .fault (.alreadyFaulted kind s)
  | none =>
    let s0 := { s with delta := 0 }
    if s0.trapped then settle (tick s0)
    else
      let f := fetchInstr s0
      if f.2.hung then .fault (.endlessStall f.2)
      else
        match exec f.1 f.2 with
        | .next s1 => settle (finishStep f.1.mnemonic f.2.regs.p.i s1)
        | .fault r => .fault r
        | .refused r => .refused r

/-- The state with the instruction of a table word stored at PC, as a load from outside would leave it (DESIGN CHOICE,
log entry 12): three bytes, the longest instruction, the bits at and above `nbits` zero. -/
def State.withFetchWord (s : State) (nbits w : Nat) : State :=
  let pc := s.regs.pc
  pokeByte (pc + 2) (byteOfNat (w % 2 ^ nbits) 2)
    (pokeByte (pc + 1) (byteOfNat (w % 2 ^ nbits) 1) (pokeByte pc (byteOfNat (w % 2 ^ nbits) 0) s))

end Sys2Proof.Machine
end

