-- ==== Sys2Proof/Machine/Boot.lean ====
section
/-!
DEFINITION. Loading a cartridge (63_mapper_and_ports.md R620, R624), power-on, the reset sequence and the external reset
(70_reset_and_hazards.md R660 to R664). These are host actions between steps (R684); no instruction performs them.
-/

namespace Sys2Proof.Machine

/-! ### Load -/

/-- The magic bytes of the header (63_mapper_and_ports.md R620). -/
def headerMagic (h : Vector Byte 16) : Bool :=
  h[0] == 0x4E && h[1] == 0x45 && h[2] == 0x53 && h[3] == 0x1A

/-- The mapper id: byte 7's high nibble over byte 6's (63_mapper_and_ports.md R620). -/
def headerMapperId (h : Vector Byte 16) : Nat := h[7].toNat / 16 * 16 + h[6].toNat / 16

/-- The header's mirroring: four-screen over vertical over horizontal (63_mapper_and_ports.md R620). -/
def headerMirroring (h : Vector Byte 16) : Mirroring :=
  if h[6].getLsbD 3 then .fourScreen else if h[6].getLsbD 0 then .vertical else .horizontal

/-- Page arrays as one memory: byte `i` of page `k` at cell `size * k + i`. -/
def joinPages (size : Nat) : (base : Nat) → List Memory → Memory
  | _, [] => []
  | base, p :: ps => p.map (fun c => (base + c.1, c.2)) ++ joinPages size (base + size) ps

/-- The page arrays match the header: their number is the header's, and every page is a memory of the page size
(63_mapper_and_ports.md R620; DESIGN CHOICE, log entry 15). -/
def pagesMatch (count size : Nat) (pages : List Memory) : Bool := pages.length == count && pages.all (Memory.wf size)

/-- `MAPPER_IDS`: the scheme of a mapper id (63_mapper_and_ports.md section 3). -/
def schemeOf (ids : List (Nat × Scheme)) (id : Nat) : Option Scheme :=
  match ids with
  | [] => none
  | p :: l => if p.1 = id then some p.2 else schemeOf l id

/-- `Load(header, prg_pages, chr_pages)`: the cartridge, with `Initialize`, or the load-time error
(63_mapper_and_ports.md R620, R624). -/
def loadCart (cfg : Params) (h : Vector Byte 16) (prg chr : List Memory) : Except FaultKind Cart :=
  if headerMagic h = false then .error .invalidHeader
  else if h[4] = 0 then .error .invalidHeader
  else if pagesMatch h[4].toNat 0x4000 prg = false then .error .invalidHeader
  else if pagesMatch h[5].toNat 0x2000 chr = false then .error .invalidHeader
  else
    match schemeOf cfg.mapperIds (headerMapperId h) with
    | none => .error .unsupportedMapper
    | some scheme =>
      .ok { prg := joinPages 0x4000 0 prg, nPrg := h[4].toNat, chr := joinPages 0x2000 0 chr, nChr := h[5].toNat
            chrRam := [], mirroring := headerMirroring h, mapperId := headerMapperId h
            mapper := Mapper.initial scheme }

/-! ### Reset -/

/-- The registers a reset sets, but for PC: A = X = Y = 0, S = 0xFD, P = 0x24 (70_reset_and_hazards.md R661). -/
def Regs.atReset (pc : Addr) : Regs := { a := 0, x := 0, y := 0, s := 0xFD#8, pc := pc, p := Flags.reset }

/-- `ResetSequence()`: five internal cycles, the RESET vector, then `START_PC` (70_reset_and_hazards.md R661). -/
def resetSequence (s : State) : State :=
  let s1 := loadVector 0xFFFC#16 (tick (tick (tick (tick (tick s)))))
  match s1.cfg.startPc with
  | some pc => setPc pc s1
  | none => s1

/-- Every piece of state at its reset value, before the reset sequence (70_reset_and_hazards.md R660; 10_state.md).
PC has no value before the sequence loads it; it stands at 0 meanwhile, and nothing reads it. -/
def coldState (cfg : Params) (cart : Cart) : State where
  cfg := cfg
  regs := Regs.atReset 0
  cycles := 0
  delta := 0
  nmiPending := false
  trapped := false
  iPoll := true
  prevCli := false
  palPhase := 0
  stall := 0
  oamDmaPage := none
  fault := none
  ram := []
  exram := []
  sram := []
  flat := []
  pads := { strobe := false, shift1 := 0, shift2 := 0, host := none }
  ppu := Ppu.reset
  apu := Apu.reset
  cart := cart
  draws := { openBus := 0, buttons := 0 }
  hung := false

/-- Power-on with a loaded cartridge (70_reset_and_hazards.md R660, R661). -/
def powerOn (cfg : Params) (cart : Cart) : State := resetSequence (coldState cfg cart)

/-- `initialize(cart)`: load, then power-on; a failed load creates no core state (70_reset_and_hazards.md R680;
63_mapper_and_ports.md R620). -/
def bootCart (cfg : Params) (h : Vector Byte 16) (prg chr : List Memory) : Except FaultKind State :=
  match loadCart cfg h prg chr with
  | .ok cart => .ok (powerOn cfg cart)
  | .error e => .error e

/-- What an external reset sets before the sequence (70_reset_and_hazards.md R663). -/
def externalResetHead (s : State) : State :=
  { s with
    regs := Regs.atReset s.regs.pc
    iPoll := true
    prevCli := false
    delta := 0
    trapped := false
    nmiPending := false
    stall := 0
    oamDmaPage := none
    hung := false }

/-- An external reset, between steps (70_reset_and_hazards.md R660, R663, R664). It does not clear `fault`. -/
def externalReset (s : State) : State := resetSequence (externalResetHead s)

/-- The host supplies the button states that the next latches read, or supplies none (63_mapper_and_ports.md R640). -/
def setButtons (b : Option (Byte × Byte)) (s : State) : State := { s with pads := { s.pads with host := b } }

end Sys2Proof.Machine
end

