-- ==== Sys2Proof/Machine/Forms.lean ====
section
/-!
DEFINITION. The `format` column of spec/opcode_table.json: the addressing mode of every instruction with its operand
bytes (30_encoding.md R203, 40_addressing_modes.md R240), and the address a conformance-log line shows. The meanings
in the family files name their mode themselves; this table is what the log and the statements read.
-/

namespace Sys2Proof.Machine

/-- An addressing mode with its operand bytes (40_addressing_modes.md R241 to R253). -/
inductive Operand
  /-- `imp` (R241) -/
  | implied
  /-- `acc` (R242) -/
  | accumulator
  /-- `imm` (R243) -/
  | immediate (m : Byte)
  /-- the modes with an effective address (R244 to R249, R251, R252) -/
  | memory (m : EaMode)
  /-- `ind` (R250) -/
  | indirect (w : Addr)
  /-- `rel` (R253) -/
  | relative (off : Byte)
  deriving DecidableEq, Repr

/-- The `format` column of opcode_table.json. -/
def instrOperand : Instr → Operand
  | .brk => .implied
  | .oraIzx b => .memory (.izx b)
  | .jam02 => .implied
  | .sloIzx b => .memory (.izx b)
  | .nopZp04 b => .memory (.zp b)
  | .oraZp b => .memory (.zp b)
  | .aslZp b => .memory (.zp b)
  | .sloZp b => .memory (.zp b)
  | .php => .implied
  | .oraImm m => .immediate m
  | .aslAcc => .accumulator
  | .ancImm0B m => .immediate m
  | .nopAbs w => .memory (.abs w)
  | .oraAbs w => .memory (.abs w)
  | .aslAbs w => .memory (.abs w)
  | .sloAbs w => .memory (.abs w)
  | .bplRel off => .relative off
  | .oraIzy b => .memory (.izy b)
  | .jam12 => .implied
  | .sloIzy b => .memory (.izy b)
  | .nopZpx14 b => .memory (.zpx b)
  | .oraZpx b => .memory (.zpx b)
  | .aslZpx b => .memory (.zpx b)
  | .sloZpx b => .memory (.zpx b)
  | .clc => .implied
  | .oraAby w => .memory (.aby w)
  | .nop1A => .implied
  | .sloAby w => .memory (.aby w)
  | .nopAbx1C w => .memory (.abx w)
  | .oraAbx w => .memory (.abx w)
  | .aslAbx w => .memory (.abx w)
  | .sloAbx w => .memory (.abx w)
  | .jsrAbs w => .memory (.abs w)
  | .andIzx b => .memory (.izx b)
  | .jam22 => .implied
  | .rlaIzx b => .memory (.izx b)
  | .bitZp b => .memory (.zp b)
  | .andZp b => .memory (.zp b)
  | .rolZp b => .memory (.zp b)
  | .rlaZp b => .memory (.zp b)
  | .plp => .implied
  | .andImm m => .immediate m
  | .rolAcc => .accumulator
  | .ancImm2B m => .immediate m
  | .bitAbs w => .memory (.abs w)
  | .andAbs w => .memory (.abs w)
  | .rolAbs w => .memory (.abs w)
  | .rlaAbs w => .memory (.abs w)
  | .bmiRel off => .relative off
  | .andIzy b => .memory (.izy b)
  | .jam32 => .implied
  | .rlaIzy b => .memory (.izy b)
  | .nopZpx34 b => .memory (.zpx b)
  | .andZpx b => .memory (.zpx b)
  | .rolZpx b => .memory (.zpx b)
  | .rlaZpx b => .memory (.zpx b)
  | .sec => .implied
  | .andAby w => .memory (.aby w)
  | .nop3A => .implied
  | .rlaAby w => .memory (.aby w)
  | .nopAbx3C w => .memory (.abx w)
  | .andAbx w => .memory (.abx w)
  | .rolAbx w => .memory (.abx w)
  | .rlaAbx w => .memory (.abx w)
  | .rti => .implied
  | .eorIzx b => .memory (.izx b)
  | .jam42 => .implied
  | .sreIzx b => .memory (.izx b)
  | .nopZp44 b => .memory (.zp b)
  | .eorZp b => .memory (.zp b)
  | .lsrZp b => .memory (.zp b)
  | .sreZp b => .memory (.zp b)
  | .pha => .implied
  | .eorImm m => .immediate m
  | .lsrAcc => .accumulator
  | .alrImm m => .immediate m
  | .jmpAbs w => .memory (.abs w)
  | .eorAbs w => .memory (.abs w)
  | .lsrAbs w => .memory (.abs w)
  | .sreAbs w => .memory (.abs w)
  | .bvcRel off => .relative off
  | .eorIzy b => .memory (.izy b)
  | .jam52 => .implied
  | .sreIzy b => .memory (.izy b)
  | .nopZpx54 b => .memory (.zpx b)
  | .eorZpx b => .memory (.zpx b)
  | .lsrZpx b => .memory (.zpx b)
  | .sreZpx b => .memory (.zpx b)
  | .cli => .implied
  | .eorAby w => .memory (.aby w)
  | .nop5A => .implied
  | .sreAby w => .memory (.aby w)
  | .nopAbx5C w => .memory (.abx w)
  | .eorAbx w => .memory (.abx w)
  | .lsrAbx w => .memory (.abx w)
  | .sreAbx w => .memory (.abx w)
  | .rts => .implied
  | .adcIzx b => .memory (.izx b)
  | .jam62 => .implied
  | .rraIzx b => .memory (.izx b)
  | .nopZp64 b => .memory (.zp b)
  | .adcZp b => .memory (.zp b)
  | .rorZp b => .memory (.zp b)
  | .rraZp b => .memory (.zp b)
  | .pla => .implied
  | .adcImm m => .immediate m
  | .rorAcc => .accumulator
  | .arrImm m => .immediate m
  | .jmpInd w => .indirect w
  | .adcAbs w => .memory (.abs w)
  | .rorAbs w => .memory (.abs w)
  | .rraAbs w => .memory (.abs w)
  | .bvsRel off => .relative off
  | .adcIzy b => .memory (.izy b)
  | .jam72 => .implied
  | .rraIzy b => .memory (.izy b)
  | .nopZpx74 b => .memory (.zpx b)
  | .adcZpx b => .memory (.zpx b)
  | .rorZpx b => .memory (.zpx b)
  | .rraZpx b => .memory (.zpx b)
  | .sei => .implied
  | .adcAby w => .memory (.aby w)
  | .nop7A => .implied
  | .rraAby w => .memory (.aby w)
  | .nopAbx7C w => .memory (.abx w)
  | .adcAbx w => .memory (.abx w)
  | .rorAbx w => .memory (.abx w)
  | .rraAbx w => .memory (.abx w)
  | .nopImm80 m => .immediate m
  | .staIzx b => .memory (.izx b)
  | .nopImm82 m => .immediate m
  | .saxIzx b => .memory (.izx b)
  | .styZp b => .memory (.zp b)
  | .staZp b => .memory (.zp b)
  | .stxZp b => .memory (.zp b)
  | .saxZp b => .memory (.zp b)
  | .dey => .implied
  | .nopImm89 m => .immediate m
  | .txa => .implied
  | .xaaImm m => .immediate m
  | .styAbs w => .memory (.abs w)
  | .staAbs w => .memory (.abs w)
  | .stxAbs w => .memory (.abs w)
  | .saxAbs w => .memory (.abs w)
  | .bccRel off => .relative off
  | .staIzy b => .memory (.izy b)
  | .jam92 => .implied
  | .shaIzy b => .memory (.izy b)
  | .styZpx b => .memory (.zpx b)
  | .staZpx b => .memory (.zpx b)
  | .stxZpy b => .memory (.zpy b)
  | .saxZpy b => .memory (.zpy b)
  | .tya => .implied
  | .staAby w => .memory (.aby w)
  | .txs => .implied
  | .tasAby w => .memory (.aby w)
  | .shyAbx w => .memory (.abx w)
  | .staAbx w => .memory (.abx w)
  | .shxAby w => .memory (.aby w)
  | .shaAby w => .memory (.aby w)
  | .ldyImm m => .immediate m
  | .ldaIzx b => .memory (.izx b)
  | .ldxImm m => .immediate m
  | .laxIzx b => .memory (.izx b)
  | .ldyZp b => .memory (.zp b)
  | .ldaZp b => .memory (.zp b)
  | .ldxZp b => .memory (.zp b)
  | .laxZp b => .memory (.zp b)
  | .tay => .implied
  | .ldaImm m => .immediate m
  | .tax => .implied
  | .lxaImm m => .immediate m
  | .ldyAbs w => .memory (.abs w)
  | .ldaAbs w => .memory (.abs w)
  | .ldxAbs w => .memory (.abs w)
  | .laxAbs w => .memory (.abs w)
  | .bcsRel off => .relative off
  | .ldaIzy b => .memory (.izy b)
  | .jamB2 => .implied
  | .laxIzy b => .memory (.izy b)
  | .ldyZpx b => .memory (.zpx b)
  | .ldaZpx b => .memory (.zpx b)
  | .ldxZpy b => .memory (.zpy b)
  | .laxZpy b => .memory (.zpy b)
  | .clv => .implied
  | .ldaAby w => .memory (.aby w)
  | .tsx => .implied
  | .lasAby w => .memory (.aby w)
  | .ldyAbx w => .memory (.abx w)
  | .ldaAbx w => .memory (.abx w)
  | .ldxAby w => .memory (.aby w)
  | .laxAby w => .memory (.aby w)
  | .cpyImm m => .immediate m
  | .cmpIzx b => .memory (.izx b)
  | .nopImmC2 m => .immediate m
  | .dcpIzx b => .memory (.izx b)
  | .cpyZp b => .memory (.zp b)
  | .cmpZp b => .memory (.zp b)
  | .decZp b => .memory (.zp b)
  | .dcpZp b => .memory (.zp b)
  | .iny => .implied
  | .cmpImm m => .immediate m
  | .dex => .implied
  | .sbxImm m => .immediate m
  | .cpyAbs w => .memory (.abs w)
  | .cmpAbs w => .memory (.abs w)
  | .decAbs w => .memory (.abs w)
  | .dcpAbs w => .memory (.abs w)
  | .bneRel off => .relative off
  | .cmpIzy b => .memory (.izy b)
  | .jamD2 => .implied
  | .dcpIzy b => .memory (.izy b)
  | .nopZpxD4 b => .memory (.zpx b)
  | .cmpZpx b => .memory (.zpx b)
  | .decZpx b => .memory (.zpx b)
  | .dcpZpx b => .memory (.zpx b)
  | .cld => .implied
  | .cmpAby w => .memory (.aby w)
  | .nopDA => .implied
  | .dcpAby w => .memory (.aby w)
  | .nopAbxDC w => .memory (.abx w)
  | .cmpAbx w => .memory (.abx w)
  | .decAbx w => .memory (.abx w)
  | .dcpAbx w => .memory (.abx w)
  | .cpxImm m => .immediate m
  | .sbcIzx b => .memory (.izx b)
  | .nopImmE2 m => .immediate m
  | .isbIzx b => .memory (.izx b)
  | .cpxZp b => .memory (.zp b)
  | .sbcZp b => .memory (.zp b)
  | .incZp b => .memory (.zp b)
  | .isbZp b => .memory (.zp b)
  | .inx => .implied
  | .sbcImm m => .immediate m
  | .nop => .implied
  | .sbcImmEB m => .immediate m
  | .cpxAbs w => .memory (.abs w)
  | .sbcAbs w => .memory (.abs w)
  | .incAbs w => .memory (.abs w)
  | .isbAbs w => .memory (.abs w)
  | .beqRel off => .relative off
  | .sbcIzy b => .memory (.izy b)
  | .jamF2 => .implied
  | .isbIzy b => .memory (.izy b)
  | .nopZpxF4 b => .memory (.zpx b)
  | .sbcZpx b => .memory (.zpx b)
  | .incZpx b => .memory (.zpx b)
  | .isbZpx b => .memory (.zpx b)
  | .sed => .implied
  | .sbcAby w => .memory (.aby w)
  | .nopFA => .implied
  | .isbAby w => .memory (.aby w)
  | .nopAbxFC w => .memory (.abx w)
  | .sbcAbx w => .memory (.abx w)
  | .incAbx w => .memory (.abx w)
  | .isbAbx w => .memory (.abx w)

/-- The address the instruction's mode computes, from the state the instruction executes in: the EA or the jump target;
none for a mode with no address (60_exceptions.md R448). For a branch, whose mode names no EA (40_addressing_modes.md
R253), the model gives the branch target, taken or not (DESIGN CHOICE, log entry 20). -/
def operandAddress (i : Instr) (s : State) : Option Addr :=
  match instrOperand i with
  | .implied => none
  | .accumulator => none
  | .immediate _ => none
  | .memory m => some (effectiveAddress .read m s).1
  | .indirect w => some (indirectTarget w s).1
  | .relative off => some (branchTarget s.regs.pc off)

end Sys2Proof.Machine
end

