-- ==== Sys2Proof/Machine/Driver.lean ====
section
/-!
DEFINITION. The host's side of the core: the driver entry points (70_reset_and_hazards.md R680), the test-vector
interface (R681), the end of a run (R682), and the conformance-log snapshot with `Peek` (60_exceptions.md R448).
-/

namespace Sys2Proof.Machine

/-! ### The driver -/

/-- The state a step leaves, whatever its outcome (00_scope.md R17, R18). -/
def stepState (s : State) : State :=
  match step s with
  | .next t => t
  | .fault (.unimplementedOpcode t) => t
  | .fault (.alreadyFaulted _ t) => t
  | .fault (.endlessStall t) => t
  | .refused _ => s

/-- The first step boundary within `n` steps at which `stop` holds of the cycles used and the state, with both; none
if there is none yet. A stall that never ends leaves its step without a boundary, and no other follows (log entry 6). -/
def stepsTo (stop : Nat → State → Bool) : (n used : Nat) → State → Option (Nat × State)
  | 0, used, s => if s.hung then none else if stop used s then some (used, s) else none
  | n + 1, used, s =>
    if s.hung then none
    else if stop used s then some (used, s)
    else stepsTo stop n (used + (stepState s).delta) (stepState s)

/-- What a driver entry point returns: the cycles used and the fault, with the core's state. -/
structure DriverResult where
  used : Nat
  fault : Option FaultKind
  core : State
  deriving DecidableEq, Repr

/-- `advance(budget)` (70_reset_and_hazards.md R680); none where a step never ends (log entry 6). Every step takes at
least one cycle, so `budget` steps are enough. -/
def advance (budget : Nat) (s : State) : Option DriverResult :=
  (stepsTo (fun used t => decide (budget ≤ used) || t.fault.isSome) budget 0 s).map fun q =>
    { used := q.1, fault := q.2.fault, core := q.2 }

/-- The state a wait for vblank starts in: the signal it waits for is cleared (70_reset_and_hazards.md R680). -/
def clearVblEvent (s : State) : State := { s with ppu := { s.ppu with vblEvent := false } }

/-- `advance_to_next_vblank()` (70_reset_and_hazards.md R680), if it returns within `n` steps; it reports no fault where
the signal is set. The rule bounds no number of steps, so `VblankReturns` says what the call returns. -/
def advanceToNextVblank (n : Nat) (s : State) : Option DriverResult :=
  (stepsTo (fun _ t => t.ppu.vblEvent || t.fault.isSome) n 0 (clearVblEvent s)).map fun q =>
    { used := q.1, fault := if q.2.ppu.vblEvent then none else q.2.fault, core := q.2 }

/-- `advance_to_next_vblank()` returns `r` (70_reset_and_hazards.md R680; DEDUCED, log entry 16). -/
def VblankReturns (s : State) (r : DriverResult) : Prop := ∃ n, advanceToNextVblank n s = some r

/-! ### The test-vector interface -/

/-- `SetState(PC, A, X, Y, S, P, mem)`; bits 5:4 of P are ignored (70_reset_and_hazards.md R681). -/
def setVectorState (pc : Addr) (a x y sp p : Byte) (mem : Memory) (s : State) : State :=
  { s with
    regs := { a := a, x := x, y := y, s := sp, pc := pc, p := Flags.ofByte p }
    flat := mem
    trapped := false
    fault := none
    nmiPending := false
    stall := 0
    oamDmaPage := none
    iPoll := (Flags.ofByte p).i
    prevCli := false
    delta := 0
    hung := false }

/-- `RunOne()` (70_reset_and_hazards.md R681). -/
def runOne (s : State) : State := stepState s

/-- `Result` (70_reset_and_hazards.md R681). -/
structure VectorResult where
  pc : Addr
  a : Byte
  x : Byte
  y : Byte
  s : Byte
  p : Byte
  flat : Memory
  delta : Nat
  fault : Option FaultKind
  deriving DecidableEq, Repr

/-- `Result` of a state (70_reset_and_hazards.md R681). -/
def vectorResult (s : State) : VectorResult :=
  { pc := s.regs.pc, a := s.regs.a, x := s.regs.x, y := s.regs.y, s := s.regs.s, p := s.regs.p.toByte, flat := s.flat
    delta := s.delta, fault := s.fault }

/-! ### The end of a run -/

/-- How a run ends at a step boundary (70_reset_and_hazards.md R682). -/
inductive RunEnd
  | faulted (kind : FaultKind)
  | halted
  | suspended
  deriving DecidableEq, Repr

/-- The entry point that drives a run: `advance(budget)` or `advance_to_next_vblank()` (70_reset_and_hazards.md
R680). -/
inductive DriverCall
  | budget (n : Nat)
  | vblank
  deriving DecidableEq, Repr

/-- The driver's condition of 70_reset_and_hazards.md R680 is met, `used` cycles after the call. -/
def DriverCall.met (c : DriverCall) (used : Nat) (s : State) : Bool :=
  match c with
  | .budget n => decide (n ≤ used)
  | .vblank => s.ppu.vblEvent

/-- The condition that ends a run at this step boundary, in the order of 70_reset_and_hazards.md R682. -/
def runEnd (c : DriverCall) (used : Nat) (s : State) : Option RunEnd :=
  match s.fault with
  | some kind => some (.faulted kind)
  | none => if s.trapped then some .halted else if c.met used s then some .suspended else none

/-- How a run ended, with the cycles used and the state at the end. -/
structure RunResult where
  ended : RunEnd
  used : Nat
  core : State
  deriving DecidableEq, Repr

/-- The state a run starts in under the driver's call (70_reset_and_hazards.md R680). -/
def DriverCall.start (c : DriverCall) (s : State) : State :=
  match c with
  | .budget _ => s
  | .vblank => clearVblEvent s

/-- The run from a launch under a call of the driver, if it ends within `n` steps: at the first step boundary at which
a condition of 70_reset_and_hazards.md R682 holds. -/
def run (n : Nat) (c : DriverCall) (s : State) : Option RunResult :=
  (stepsTo (fun used t => (runEnd c used t).isSome) n 0 (c.start s)).bind fun q =>
    (runEnd c q.1 q.2).map fun e => { ended := e, used := q.1, core := q.2 }

/-- The run from a launch under a call of the driver ends with `r`, after any number of steps
(70_reset_and_hazards.md R682; DEDUCED, log entry 16). -/
def RunEnds (c : DriverCall) (s : State) (r : RunResult) : Prop := ∃ n, run n c s = some r

/-! ### The conformance log -/

/-- A read of the address has a side effect or reads open bus: the PPU registers, the APU and controller ports and the
unmapped window (20_memory.md R144, R154). -/
def peekIsDraw (s : State) (addr : Addr) : Bool := (storedByte s addr).isNone

/-- `Peek(a)`: the byte a bus read would return, with no cycle and no effect; a draw where such a read has an effect or
is open bus (60_exceptions.md R448; DESIGN CHOICE, log entry 13). -/
def peek (s : State) (addr : Addr) : Byte := (storedByte s addr).getD (Config.peekDraw s.cycles addr)

/-- The snapshot exposed before each step (60_exceptions.md R448). -/
structure Snapshot where
  pc : Addr
  bytes : List Byte
  mnemonic : Mnemonic
  marked : Bool
  a : Byte
  x : Byte
  y : Byte
  p : Byte
  s : Byte
  scanline : Nat
  dot : Nat
  cycles : Nat
  deriving DecidableEq, Repr

/-- The instruction at PC, read by `Peek` (60_exceptions.md R448). -/
def peekInstr (s : State) : Instr :=
  (opcodeCell (peek s s.regs.pc)).instr (peek s (s.regs.pc + 1)) (peek s (s.regs.pc + 2))

/-- The snapshot before a step (60_exceptions.md R448; the `*` marker, 30_encoding.md R213). -/
def snapshot (s : State) : Snapshot :=
  let i := peekInstr s
  { pc := s.regs.pc
    bytes := (peek s s.regs.pc :: [peek s (s.regs.pc + 1), peek s (s.regs.pc + 2)]).take i.size
    mnemonic := i.mnemonic
    marked := !i.official
    a := s.regs.a
    x := s.regs.x
    y := s.regs.y
    p := s.regs.p.toByte
    s := s.regs.s
    scanline := s.ppu.scanline
    dot := s.ppu.dot
    cycles := s.cycles }

/-- The effective address the mode of a fetched instruction computes in its execution from `s`, if it has one
(40_addressing_modes.md R244 to R252). A slot fetches no operand (46_undocumented.md R391). JSR's is its target, whose
high byte is read after the pushes (44_control_flow.md R350). A branch's is its target, taken or not (DESIGN CHOICE,
log entry 20). -/
def executedAddress (i : Instr) (s : State) : Option Addr :=
  if i.isSlot s.cfg then none
  else if i.mnemonic = .JSR then
    match exec i s with
    | .next t => some t.regs.pc
    | .fault _ => none
    | .refused _ => none
  else operandAddress i s

/-- The effective address the next step's mode computes, and the byte `Peek` gives there after the step; none where
there is no such address, or no such step (60_exceptions.md R448). -/
def snapshotAfter (s : State) : Option (Addr × Byte) :=
  if s.trapped ∨ s.fault ≠ none then none
  else
    let f := fetchInstr { s with delta := 0 }
    (executedAddress f.1 f.2).map fun a => (a, peek (stepState s) a)

end Sys2Proof.Machine
end

