-- ==== Sys2Proof/Safety.lean ====
section
/-!
DEFINITION. The terms claims are made in: one byte of any memory, the cell a CPU write stores into, what a cycle keeps,
the launch premises of 70_reset_and_hazards.md R683, and the invariant of the whole state.
-/

namespace Sys2Proof.Machine

/-! ### One byte of memory -/

/-- The byte of cell `a` of a memory: the model's read of one byte, for every memory of the machine. -/
def cellByte (s : State) (k : MemKind) (a : Nat) : Byte :=
  match k with
  | .ram => Memory.byte .ram s.ram a
  | .exram => Memory.byte .exram s.exram a
  | .sram => Memory.byte .sram s.sram a
  | .flat => Memory.byte .flat s.flat a
  | .prg => Memory.byte .prg s.cart.prg a
  | .chr => Memory.byte .chr s.cart.chr a
  | .chrRam => Memory.byte .chrRam s.cart.chrRam a
  | .vram => Memory.byte .vram s.ppu.vram a
  | .palette => Memory.byte .palette s.ppu.palette a
  | .oam => Memory.byte .oam s.ppu.oam a

/-- Every byte of every memory reads the same in both states. -/
def SameBytes (s t : State) : Prop := ∀ k a, cellByte t k a = cellByte s k a

/-- The cell a PPUDATA write at the VRAM address `v` stores into; none for CHR ROM (20_memory.md R170). -/
def ppuDataTarget (c : Cart) (v : BitVec 15) : Option (MemKind × Nat) :=
  let a := v.toNat % 0x4000
  if a < 0x2000 then (if c.nChr = 0 then some (.chrRam, c.chrRamCell a) else none)
  else if a < 0x3F00 then some (.vram, ntIndex c.effectiveMirroring a)
  else some (.palette, palIndex a)

/-- The cell a CPU write at `addr` stores into, if it stores into a memory (20_memory.md R142, R145). -/
def storeTarget (s : State) (addr : Addr) : Option (MemKind × Nat) :=
  match s.cfg.busMode with
  | .flat64k => some (.flat, addr.toNat)
  | .console =>
    let a := addr.toNat
    if a < 0x2000 then some (.ram, a % 0x800)
    else if a < 0x4000 then
      match a % 8 with
      | 4 => some (.oam, s.ppu.oamaddr.toNat)
      | 7 => ppuDataTarget s.cart s.ppu.v
      | _ => none
    else if a < 0x4020 then none
    else if a < 0x6000 then some (.exram, a - 0x4020)
    else if a < 0x8000 then some (.sram, a - 0x6000)
    else none

/-- After a CPU write of `v` at `addr` from `s`: the target holds `v`, and every other byte reads as before. -/
def Stored (addr : Addr) (v : Byte) (s t : State) : Prop :=
  ∀ k a, cellByte t k a = if storeTarget s addr = some (k, a) then v else cellByte s k a

/-! ### What a cycle keeps -/

/-- The programmed settings of a pulse channel: what only a register write changes (62_apu.md R541, R542, R561). -/
structure PulseSettings where
  duty : BitVec 2
  swEn : Bool
  swPeriod : BitVec 3
  swNeg : Bool
  swShift : BitVec 3
  constant : Bool
  vol : BitVec 4
  enabled : Bool
  deriving DecidableEq, Repr

/-- The programmed settings of the APU: what only a register write changes (62_apu.md R541 to R549, R561). -/
structure ApuSettings where
  pulse1 : PulseSettings
  pulse2 : PulseSettings
  triControl : Bool
  triReload : BitVec 7
  triPeriod : BitVec 11
  triEnabled : Bool
  noiseMode : Bool
  noisePeriod : BitVec 4
  noiseConstant : Bool
  noiseVol : BitVec 4
  noiseEnabled : Bool
  dmcIrqEn : Bool
  dmcLoop : Bool
  dmcRate : BitVec 4
  dmcAddr : Byte
  dmcLen : Byte
  irqInhibit : Bool
  deriving DecidableEq, Repr

/-- The settings of a pulse channel. -/
def Pulse.settings (p : Pulse) : PulseSettings :=
  { duty := p.duty, swEn := p.swEn, swPeriod := p.swPeriod, swNeg := p.swNeg, swShift := p.swShift
    constant := p.env.constant, vol := p.env.vol, enabled := p.lc.enabled }

/-- The settings of the APU. -/
def Apu.settings (a : Apu) : ApuSettings :=
  { pulse1 := a.pulse1.settings, pulse2 := a.pulse2.settings, triControl := a.triangle.control
    triReload := a.triangle.linReloadVal, triPeriod := a.triangle.period, triEnabled := a.triangle.lc.enabled
    noiseMode := a.noise.mode, noisePeriod := a.noise.periodIndex, noiseConstant := a.noise.env.constant
    noiseVol := a.noise.env.vol, noiseEnabled := a.noise.lc.enabled, dmcIrqEn := a.dmc.irqEn, dmcLoop := a.dmc.loop
    dmcRate := a.dmc.rateIndex, dmcAddr := a.dmc.sampleAddrReg, dmcLen := a.dmc.sampleLenReg
    irqInhibit := a.irqInhibit }

/-- What is neither a register, nor a memory, nor a counter that every cycle advances: the parameters, the CPU's run
state, the registers of the mapper, the control registers of the PPU and the APU, the host's buttons, and, unless a
sample can stall the CPU for ever (log entry 6), the mark of that. -/
structure KeptControl (s t : State) : Prop where
  cfg : t.cfg = s.cfg
  trapped : t.trapped = s.trapped
  iPoll : t.iPoll = s.iPoll
  prevCli : t.prevCli = s.prevCli
  fault : t.fault = s.fault
  oamDmaPage : t.oamDmaPage = s.oamDmaPage
  mapper : t.cart.mapper = s.cart.mapper
  ctrl : t.ppu.ctrl = s.ppu.ctrl
  mask : t.ppu.mask = s.ppu.mask
  tAddr : t.ppu.t = s.ppu.t
  fineX : t.ppu.x = s.ppu.x
  apu : t.apu.settings = s.apu.settings
  strobe : t.pads.strobe = s.pads.strobe
  host : t.pads.host = s.pads.host
  hung : s.cfg.dmcStallCycles < 400 → t.hung = s.hung

/-- What no store changes either: the parameters, the CPU's run state, the host's buttons and the mark of an endless
stall. -/
structure KeptRun (s t : State) : Prop where
  cfg : t.cfg = s.cfg
  trapped : t.trapped = s.trapped
  iPoll : t.iPoll = s.iPoll
  prevCli : t.prevCli = s.prevCli
  fault : t.fault = s.fault
  host : t.pads.host = s.pads.host
  hung : s.cfg.dmcStallCycles < 400 → t.hung = s.hung

/-- No register of a device or of the mapper is at the address: RAM, the unmapped window, cartridge RAM, and every
address of flat mode (20_memory.md R142, R145). -/
def isPlainAddress (s : State) (addr : Addr) : Bool :=
  match s.cfg.busMode with
  | .flat64k => true
  | .console => decide (addr.toNat < 0x2000) || (decide (0x4018 ≤ addr.toNat) && decide (addr.toNat < 0x8000))

/-- The clocks only go forward, and `delta` counts what `cycles` counts (10_state.md R50, R54); a latched NMI request
stays (60_exceptions.md R416). -/
structure Clocked (s t : State) : Prop where
  forward : s.cycles ≤ t.cycles
  count : t.cycles + s.delta = s.cycles + t.delta
  nmi : s.nmiPending = true → t.nmiPending = true

/-- The frame of a store at `addr`: the run state is kept, and every control register where none is at the address. -/
def StoreFrame (addr : Addr) (s t : State) : Prop :=
  KeptRun s t ∧ Clocked s t ∧ (isPlainAddress s addr = true → KeptControl s t)

/-- The frame of cycles that store nothing: control state, every byte of memory, and the clocks go forward. -/
structure Undisturbed (s t : State) : Prop where
  control : KeptControl s t
  bytes : SameBytes s t
  clocked : Clocked s t

/-! ### Operands -/

/-- A byte of the zero page: RAM, or the flat memory (20_memory.md R160, R145). -/
def zeroPageByte (s : State) (a : Nat) : Byte :=
  match s.cfg.busMode with
  | .console => cellByte s .ram a
  | .flat64k => cellByte s .flat a

/-- A 16-bit word from two bytes of the zero page, the second one's address wrapping inside it
(40_addressing_modes.md R251, R252). -/
def zeroPageWord (s : State) (p : Nat) : Nat :=
  (zeroPageByte s (p % 256)).toNat + 256 * (zeroPageByte s ((p + 1) % 256)).toNat

/-- The effective address by the arithmetic of 40_addressing_modes.md R244 to R252, as a number. -/
def specAddress (s : State) : EaMode → Nat
  | .zp b => b.toNat
  | .zpx b => (b.toNat + s.regs.x.toNat) % 256
  | .zpy b => (b.toNat + s.regs.y.toNat) % 256
  | .abs w => w.toNat
  | .abx w => (w.toNat + s.regs.x.toNat) % 65536
  | .aby w => (w.toNat + s.regs.y.toNat) % 65536
  | .izx b => zeroPageWord s ((b.toNat + s.regs.x.toNat) % 256)
  | .izy b => (zeroPageWord s b.toNat + s.regs.y.toNat) % 65536

/-- The base address an indexed mode adds to, for the page-crossing rule (40_addressing_modes.md R248, R249, R252). -/
def specBase (s : State) : EaMode → Option Nat
  | .abx w => some w.toNat
  | .aby w => some w.toNat
  | .izy b => some (zeroPageWord s b.toNat)
  | .zp _ => none
  | .zpx _ => none
  | .zpy _ => none
  | .abs _ => none
  | .izx _ => none

/-- `hi(EA) != hi(base)` for the modes that index a 16-bit base (40_addressing_modes.md R257). -/
def crossesPage (s : State) (m : EaMode) : Bool :=
  match specBase s m with
  | some base => base / 256 != specAddress s m / 256
  | none => false

/-- The operand of a read-class instruction with the state after it is read: the immediate byte, or the byte of one bus
read at the effective address (40_addressing_modes.md R254). -/
def readValue (o : Operand) (s : State) : Option (Byte × State) :=
  match o with
  | .immediate m => some (m, s)
  | .memory m =>
    let ea := effectiveAddress .read m s
    let r := busRead ea.1 (drainStall ea.2)
    some (r.1, endCycle r.2)
  | .implied => none
  | .accumulator => none
  | .indirect _ => none
  | .relative _ => none

/-- The instruction completes from `s` in a state with the property. -/
def Completes (i : Instr) (s : State) (post : State → Prop) : Prop := ∃ t, exec i s = .next t ∧ post t

/-- A read-class instruction completes: in the state after its operand's read, with what the read does to a device,
the registers become `f` of the operand and the registers before; nothing else is stored or changed but by the
cycles. -/
def ReadCompletes (i : Instr) (f : Byte → Regs → Regs) : Prop :=
  ∀ s, ∃ r, readValue (instrOperand i) s = some r ∧
    let t := { r.2 with regs := f r.1 s.regs }
    exec i s = .next t ∧ Undisturbed s t

/-- A write-class instruction completes: its last cycle is the bus write of `f` of the registers at the effective
address, with what that does to a device, after the address cycles and the stalls before it (40_addressing_modes.md
R255). -/
def WriteCompletes (i : Instr) (f : Regs → Byte) : Prop :=
  ∀ s, ∃ m, instrOperand i = .memory m ∧
    let ea := effectiveAddress .write m s
    let d := drainStall ea.2
    let t := endCycle (busWrite ea.1 (f s.regs) d)
    exec i s = .next t ∧ t.regs = s.regs ∧ Stored ea.1 (f s.regs) d t ∧ SameBytes s d ∧ StoreFrame ea.1 s t

/-- A read-modify-write instruction completes: the byte at the effective address becomes `f` of it and the registers,
which become `g` of them (40_addressing_modes.md R256). The sequence is: address cycles, the cycle of a bus read, one
tick, the registers, the cycle of a bus write; a stall comes before the access of its cycle. -/
def ModifyCompletes (i : Instr) (f : Byte → Regs → Byte) (g : Byte → Regs → Regs) : Prop :=
  ∀ s, ∃ m, instrOperand i = .memory m ∧
    let ea := effectiveAddress .rmw m s
    let r := busRead ea.1 (drainStall ea.2)
    let u := drainStall { tick (endCycle r.2) with regs := g r.1 s.regs }
    let t := endCycle (busWrite ea.1 (f r.1 s.regs) u)
    exec i s = .next t ∧ t.regs = g r.1 s.regs ∧ Stored ea.1 (f r.1 s.regs) u t ∧ SameBytes s u ∧ StoreFrame ea.1 s t

/-- An instruction that works on registers only completes: after one tick the registers become `f` of them, and
nothing else is stored or changed but by the cycle (40_addressing_modes.md R241, R242). -/
def RegisterCompletes (i : Instr) (f : Regs → Regs) : Prop :=
  ∀ s,
    let t := { tick s with regs := f s.regs }
    exec i s = .next t ∧ Undisturbed s t

/-! ### The arithmetic of the statements, in numbers -/

/-- `SetNZ(v)` with v a number: N from 128 on, Z at 0 (00_scope.md R16). -/
def nz (v : Byte) (p : Flags) : Flags := { p with n := decide (128 ≤ v.toNat), z := decide (v.toNat = 0) }

/-- A signed number outside -128 to 127 (42_arithmetic_logic.md R300). -/
def signedOutside (i : Int) : Bool := decide (i < -128) || decide (127 < i)

/-- The registers after `A <- AddC(A, m, P.C)`, by exact sums (42_arithmetic_logic.md R300, R302). -/
def addRegs (m : Byte) (r : Regs) : Regs :=
  let sum := r.a.toNat + m.toNat + r.p.c.toNat
  let a := BitVec.ofNat 8 sum
  { r with
    a := a
    p := nz a { r.p with c := decide (255 < sum), v := signedOutside (r.a.toInt + m.toInt + (r.p.c.toNat : Int)) } }

/-- The registers after `A <- SubC(A, m)`: A - m - (1 - C), where C = 1 afterwards says that nothing was borrowed
(42_arithmetic_logic.md R300, R303). -/
def subRegs (m : Byte) (r : Regs) : Regs :=
  let borrow := 1 - r.p.c.toNat
  let a := BitVec.ofNat 8 (r.a.toNat + 256 - (m.toNat + borrow))
  { r with
    a := a
    p := nz a { r.p with
      c := decide (m.toNat + borrow ≤ r.a.toNat)
      v := signedOutside (r.a.toInt - m.toInt - (borrow : Int)) } }

/-- The flags after `Cmp(x, m)`: C = 1 iff x is at least m (42_arithmetic_logic.md R300). -/
def cmpFlags (x m : Byte) (p : Flags) : Flags :=
  nz (BitVec.ofNat 8 (x.toNat + 256 - m.toNat)) { p with c := decide (m.toNat ≤ x.toNat) }

/-- A combination becomes A, with SetNZ. -/
def setA (v : Byte) (r : Regs) : Regs := { r with a := v, p := nz v r.p }

/-- The carry becomes `c`. -/
def withC (c : Bool) (r : Regs) : Regs := { r with p := { r.p with c := c } }

/-- N and Z become those of `v`. -/
def withNZ (v : Byte) (r : Regs) : Regs := { r with p := nz v r.p }

/-- `(M << 1) mod 256`, with a bit in at the right (43_shift_rotate.md R330, R332). -/
def leftByte (c : Bool) (m : Byte) : Byte := BitVec.ofNat 8 (2 * m.toNat + c.toNat)

/-- `M >> 1`, with a bit in at the left (43_shift_rotate.md R331, R333). -/
def rightByte (c : Bool) (m : Byte) : Byte := BitVec.ofNat 8 (m.toNat / 2 + 128 * c.toNat)

/-- M[7], the bit a left shift moves out. -/
def topBit (m : Byte) : Bool := decide (128 ≤ m.toNat)

/-- M[0], the bit a right shift moves out. -/
def lowBit (m : Byte) : Bool := decide (m.toNat % 2 = 1)

/-! ### Operand tables -/

/-- The operand bytes of a mode, in order (30_encoding.md R200, R202). -/
def operandBytesOf : Operand → List Byte
  | .implied => []
  | .accumulator => []
  | .immediate m => [m]
  | .relative off => [off]
  | .indirect w => [BitVec.ofNat 8 w.toNat, BitVec.ofNat 8 (w.toNat / 256)]
  | .memory (.zp b) => [b]
  | .memory (.zpx b) => [b]
  | .memory (.zpy b) => [b]
  | .memory (.izx b) => [b]
  | .memory (.izy b) => [b]
  | .memory (.abs w) => [BitVec.ofNat 8 w.toNat, BitVec.ofNat 8 (w.toNat / 256)]
  | .memory (.abx w) => [BitVec.ofNat 8 w.toNat, BitVec.ofNat 8 (w.toNat / 256)]
  | .memory (.aby w) => [BitVec.ofNat 8 w.toNat, BitVec.ofNat 8 (w.toNat / 256)]

/-- A branch whose condition is `cond` completes: PC moves by the signed offset iff the condition holds, and nothing
else changes (40_addressing_modes.md R253, 44_control_flow.md R340). -/
def BranchCompletes (i : Instr) (cond : Flags → Bool) : Prop :=
  ∀ s, ∃ off, instrOperand i = .relative off ∧ Completes i s fun t =>
    t.regs = (if cond s.regs.p then { s.regs with pc := BitVec.ofInt 16 (s.regs.pc.toNat + off.toInt) } else s.regs)
      ∧ Undisturbed s t

/-- A push instruction completes: `f` of the registers is stored at 0x0100 | S, S goes down by one, nothing else
changes (00_scope.md R15). -/
def PushCompletes (i : Instr) (f : Regs → Byte) : Prop :=
  ∀ s, Completes i s fun t => t.regs = { s.regs with s := s.regs.s - 1 } ∧ Stored (stackAddr s.regs.s) (f s.regs) s t
    ∧ KeptControl s t ∧ Clocked s t

/-- The byte at the stack slot of a stack-pointer value (10_state.md R43). -/
def stackByte (s : State) (sp : Byte) : Byte := zeroPageByte s (0x100 + sp.toNat)

/-- The cell of the stack slot of a stack-pointer value. -/
def stackCell (s : State) (sp : Byte) : MemKind × Nat :=
  match s.cfg.busMode with
  | .console => (.ram, 0x100 + sp.toNat)
  | .flat64k => (.flat, 0x100 + sp.toNat)

/-- `hi:lo` at an address and the next, where storage answers at both (20_memory.md R150, R161). -/
def storedWord (s : State) (addr : Addr) : Option Addr :=
  match storedByte s addr, storedByte s (addr + 1) with
  | some lo, some hi => some (BitVec.ofNat 16 (lo.toNat + 256 * hi.toNat))
  | _, _ => none

/-- What interrupt entry leaves, for the return address `ret` and the vector `vec` (60_exceptions.md R420 to R422):
three pushes, I set, PC from the vector, everything else kept. -/
structure Entered (kind : EntryKind) (ret vec : Addr) (s t : State) : Prop where
  a : t.regs.a = s.regs.a
  x : t.regs.x = s.regs.x
  y : t.regs.y = s.regs.y
  sp : t.regs.s = s.regs.s - 3
  p : t.regs.p = { s.regs.p with i := true }
  pc : some t.regs.pc = storedWord s vec
  pushedHigh : stackByte t s.regs.s = BitVec.ofNat 8 (ret.toNat / 256)
  pushedLow : stackByte t (s.regs.s - 1) = BitVec.ofNat 8 ret.toNat
  pushedStatus : stackByte t (s.regs.s - 2) = s.regs.p.toByte ||| kind.breakField
  bytes : ∀ k c, (k, c) ≠ stackCell s s.regs.s → (k, c) ≠ stackCell s (s.regs.s - 1) →
    (k, c) ≠ stackCell s (s.regs.s - 2) → cellByte t k c = cellByte s k c
  control : KeptControl s t
  forward : s.cycles ≤ t.cycles
  count : t.cycles + s.delta = s.cycles + t.delta

/-- No vblank that requests an NMI starts in the two vector cycles of an interrupt entry from `s` that leaves `t`: flat
mode, the request disabled, or, with no stall to lengthen the entry, a dot position that lies beyond the eight dots
after the start of vblank (61_ppu.md R487; 20_memory.md R132). -/
def NoNewNmi (s t : State) : Prop :=
  s.cfg.busMode = .flat64k ∨ s.ppu.ctrl.toNat < 128 ∨
    (s.stall = 0 ∧ s.apu.dmc.bytesLeft = 0 ∧ ¬(t.ppu.scanline = 241 ∧ t.ppu.dot ≤ 9))

/-- The condition of a branch, by its mnemonic (44_control_flow.md R341 to R348); false for any other instruction. -/
def branchTaken (m : Mnemonic) (p : Flags) : Bool :=
  (m == .BCC && !p.c) || (m == .BCS && p.c) || (m == .BNE && !p.z) || (m == .BEQ && p.z) || (m == .BPL && !p.n)
    || (m == .BMI && p.n) || (m == .BVC && !p.v) || (m == .BVS && p.v)

/-- The cycles an instruction takes beyond its base count: one for an indexed read across a page, one for a taken
branch, two for a taken branch across a page (40_addressing_modes.md R257, R253). PC of `s` is the opcode's address.
-/
def extraCycles (i : Instr) (s : State) : Nat :=
  match instrOperand i with
  | .memory m => if i.penalty = 1 ∧ crossesPage s m = true then 1 else 0
  | .relative off =>
    let next := s.regs.pc + 2
    if branchTaken i.mnemonic s.regs.p = false then 0
    else if (BitVec.ofInt 16 (next.toNat + off.toInt)).toNat / 256 = next.toNat / 256 then 1
    else 2
  | .implied => 0
  | .accumulator => 0
  | .immediate _ => 0
  | .indirect _ => 0

/-! ### Steps -/

/-- The state after `n` steps. -/
def afterSteps : (n : Nat) → State → State
  | 0, s => s
  | n + 1, s => stepState (afterSteps n s)

/-- The cycles of `n` steps: the sum of their `delta` (70_reset_and_hazards.md R680). -/
def cyclesUsed : (n : Nat) → State → Nat
  | 0, _ => 0
  | n + 1, s => cyclesUsed n s + (afterSteps (n + 1) s).delta

/-- The boundary after `n` steps from `s` is the first at which `stop` holds of the cycles used and the state, and no
step up to it is left unfinished by a stall that never ends (70_reset_and_hazards.md R680, R682; log entry 6). -/
def FirstBoundary (stop : Nat → State → Prop) (n : Nat) (s : State) : Prop :=
  stop (cyclesUsed n s) (afterSteps n s) ∧ (afterSteps n s).hung = false ∧
    ∀ m, m < n → ¬stop (cyclesUsed m s) (afterSteps m s) ∧ (afterSteps m s).hung = false

/-- `n` turns of the loop of `DrainStall()` (20_memory.md R133). -/
def drainTurns : (n : Nat) → State → State
  | 0, s => s
  | n + 1, s => drainTurn (drainTurns n s)

/-! ### Devices -/

/-- `n` CPU reads of a controller port. -/
def padReads (second : Bool) : Nat → State → State
  | 0, s => s
  | n + 1, s => padReads second n (busRead (if second then 0x4017#16 else 0x4016#16) s).2

/-- This APU tick clocks the envelopes and the linear counter: a delayed 5-step write takes effect in it, or the
sequencer reaches one of its four offsets (62_apu.md R551, R552, R554). -/
def quarterClocked (s : State) : Bool :=
  let o := s.apu.offsets s.cfg
  match s.apu.fcPending with
  | some (val, 0) => decide (128 ≤ val.toNat)
  | some (_, _ + 1) => [o.o1, o.o2, o.o3, o.o4].contains (s.apu.fc + 1)
  | none => [o.o1, o.o2, o.o3, o.o4].contains (s.apu.fc + 1)

/-- This APU tick clocks the length counters and sweeps: a delayed 5-step write takes effect in it, or the sequencer
reaches its second or last offset (62_apu.md R551, R552). -/
def halfClocked (s : State) : Bool :=
  match s.apu.fcPending with
  | some (val, 0) => decide (128 ≤ val.toNat)
  | some (_, _ + 1) => s.apu.fc + 1 == (s.apu.offsets s.cfg).o2 || s.apu.fc + 1 == (s.apu.offsets s.cfg).o4
  | none => s.apu.fc + 1 == (s.apu.offsets s.cfg).o2 || s.apu.fc + 1 == (s.apu.offsets s.cfg).o4

/-- The length counter `m` after a tick of the counter `l`: decremented in a half-frame clock unless halted or 0, the
pending load applied unless the channel is disabled or was decremented, the pending halt applied after
(62_apu.md R563 to R565). -/
def Length.Ticked (half : Bool) (l m : Length) : Prop :=
  let dec := half && l.len != 0 && !l.halt
  m.enabled = l.enabled ∧ m.pendingLen = none ∧ m.pendingHalt = none ∧ m.halt = l.pendingHalt.getD l.halt ∧
    m.len.toNat = (match l.pendingLen with
      | some n => if l.enabled = true ∧ dec = false then n.toNat else l.len.toNat - dec.toNat
      | none => l.len.toNat - dec.toNat)

/-- An envelope after its clock, in numbers; `halt` is the channel's committed halt flag (62_apu.md R571). -/
def envelopeClocked (halt : Bool) (e : Envelope) : Envelope :=
  if e.start then { e with start := false, decay := 15, div := e.vol }
  else if e.div.toNat = 0 then
    { e with
      div := e.vol
      decay := if 0 < e.decay.toNat then BitVec.ofNat 4 (e.decay.toNat - 1) else if halt then 15 else 0 }
  else { e with div := BitVec.ofNat 4 (e.div.toNat - 1) }

/-- `Target(p)`, an integer; pulse 1 negates in one's complement (62_apu.md R572). -/
def sweepTarget (one : Bool) (p : Pulse) : Int :=
  let change : Int := ((p.period.toNat / 2 ^ p.swShift.toNat : Nat) : Int)
  if p.swNeg then (p.period.toNat : Int) - change - (if one then 1 else 0) else (p.period.toNat : Int) + change

/-- `Muted(p)` (62_apu.md R572). -/
def pulseMuted (one : Bool) (p : Pulse) : Bool := decide (p.period.toNat < 8) || decide (0x7FF < sweepTarget one p)

/-- A pulse channel after its sweep clock, in numbers (62_apu.md R573). -/
def sweepClocked (one : Bool) (p : Pulse) : Pulse :=
  { p with
    period :=
      if p.swDiv.toNat = 0 ∧ p.swEn = true ∧ p.swShift.toNat ≠ 0 ∧ pulseMuted one p = false then
        BitVec.ofNat 11 (sweepTarget one p).toNat
      else p.period
    swDiv := if p.swDiv.toNat = 0 ∨ p.swReload = true then p.swPeriod else BitVec.ofNat 3 (p.swDiv.toNat - 1)
    swReload := false }

/-- The triangle channel after its linear counter's clock, in numbers (62_apu.md R581). -/
def linearClocked (t : Triangle) : Triangle :=
  { t with
    lin := if t.linReload then t.linReloadVal else BitVec.ofNat 7 (t.lin.toNat - 1)
    linReload := t.linReload && t.control }

/-- A timer that counts down to 0 and restarts at `reload` (62_apu.md R570, R580, R585, R590). -/
def timerTicked (timer reload : Nat) : Nat := if timer = 0 then reload else timer - 1

/-- The output level after one output bit of the DMC, in numbers (62_apu.md R590). -/
def levelAfterBit (d : Dmc) : Nat :=
  let level := d.level.toNat
  if d.silence then level
  else if d.shift.toNat % 2 = 1 then (if level ≤ 125 then level + 2 else level)
  else if 2 ≤ level then level - 2
  else level

/-- The volume of an envelope (62_apu.md R571). -/
def envelopeVolume (e : Envelope) : Nat := if e.constant then e.vol.toNat else e.decay.toNat

/-- `Out1` and `Out2` (62_apu.md R574). -/
def pulseOutput (one : Bool) (p : Pulse) : Nat :=
  if p.lc.len.toNat = 0 ∨ pulseMuted one p = true ∨ (dutyRow p.duty.toNat)[p.seq.toNat]? ≠ some 1 then 0
  else envelopeVolume p.env

/-- `OutT` (62_apu.md R582). -/
def triangleOutput (t : Triangle) : Nat := if t.seq.toNat < 16 then 15 - t.seq.toNat else t.seq.toNat - 16

/-- `OutN` (62_apu.md R586). -/
def noiseOutput (n : Noise) : Nat :=
  if n.lfsr.toNat % 2 = 1 ∨ n.lc.len.toNat = 0 then 0 else envelopeVolume n.env

/-- `MIXER` of the channel outputs (62_apu.md R605, R606). -/
def mixedSample (m : Mixer) (a : Apu) : Rat :=
  let o1 := pulseOutput true a.pulse1
  let o2 := pulseOutput false a.pulse2
  match m with
  | .linear w =>
    ((w.pulse1 * o1 + w.pulse2 * o2 + w.triangle * triangleOutput a.triangle + w.noise * noiseOutput a.noise
      + w.dmc * a.dmc.level.toNat : Nat) : Rat) / 100000
  | .other => Config.mixer o1 o2 (triangleOutput a.triangle) (noiseOutput a.noise) a.dmc.level.toNat

/-- The length a length-load byte selects (62_apu.md R543, R560). -/
def lengthSelected (v : Byte) : Option Byte := (lenTable[v.toNat / 8]?).map fun n => BitVec.ofNat 8 n

/-- `period[7:0] <- v` (62_apu.md R543). -/
def periodLow (v : Byte) (p : BitVec 11) : BitVec 11 := BitVec.ofNat 11 (p.toNat / 256 * 256 + v.toNat)

/-- `period[10:8] <- v[2:0]` (62_apu.md R543). -/
def periodHigh (v : Byte) (p : BitVec 11) : BitVec 11 := BitVec.ofNat 11 (v.toNat % 8 * 256 + p.toNat % 256)

/-- The envelope after a control write (62_apu.md R541, R547). -/
def envelopeWritten (v : Byte) (e : Envelope) : Envelope :=
  { e with constant := decide (v.toNat / 16 % 2 = 1), vol := BitVec.ofNat 4 (v.toNat % 16) }

/-- A pulse channel after a write to its register `r`, in numbers (62_apu.md R541 to R543). -/
def pulseWritten (r : Nat) (v : Byte) (p : Pulse) : Pulse :=
  match r with
  | 0 =>
    { p with
      duty := BitVec.ofNat 2 (v.toNat / 64)
      lc := { p.lc with pendingHalt := some (decide (v.toNat / 32 % 2 = 1)) }
      env := envelopeWritten v p.env }
  | 1 =>
    { p with
      swEn := decide (128 ≤ v.toNat)
      swPeriod := BitVec.ofNat 3 (v.toNat / 16 % 8)
      swNeg := decide (v.toNat / 8 % 2 = 1)
      swShift := BitVec.ofNat 3 (v.toNat % 8)
      swReload := true }
  | 2 => { p with period := periodLow v p.period }
  | _ =>
    { p with
      period := periodHigh v p.period
      lc := { p.lc with pendingLen := lengthSelected v }
      seq := 0
      env := { p.env with start := true } }

/-- The triangle channel after a write to its register `r`, in numbers (62_apu.md R544, R548). -/
def triangleWritten (r : Nat) (v : Byte) (t : Triangle) : Triangle :=
  match r with
  | 0 =>
    { t with
      control := decide (128 ≤ v.toNat)
      lc := { t.lc with pendingHalt := some (decide (128 ≤ v.toNat)) }
      linReloadVal := BitVec.ofNat 7 (v.toNat % 128) }
  | 1 => t
  | 2 => { t with period := periodLow v t.period }
  | _ =>
    { t with
      period := periodHigh v t.period
      lc := { t.lc with pendingLen := lengthSelected v }
      linReload := true }

/-- The noise channel after a write to its register `r`, in numbers (62_apu.md R547, R548). -/
def noiseWritten (r : Nat) (v : Byte) (n : Noise) : Noise :=
  match r with
  | 0 =>
    { n with
      lc := { n.lc with pendingHalt := some (decide (v.toNat / 32 % 2 = 1)) }
      env := envelopeWritten v n.env }
  | 1 => n
  | 2 => { n with mode := decide (128 ≤ v.toNat), periodIndex := BitVec.ofNat 4 (v.toNat % 16) }
  | _ => { n with lc := { n.lc with pendingLen := lengthSelected v }, env := { n.env with start := true } }

/-- The DMC channel after a write to its register `r`, in numbers (62_apu.md R545, R546). -/
def dmcWritten (r : Nat) (v : Byte) (d : Dmc) : Dmc :=
  match r with
  | 0 =>
    { d with
      irqEn := decide (128 ≤ v.toNat)
      loop := decide (v.toNat / 64 % 2 = 1)
      rateIndex := BitVec.ofNat 4 (v.toNat % 16)
      dmcIrq := d.dmcIrq && decide (128 ≤ v.toNat) }
  | 1 => { d with level := BitVec.ofNat 7 (v.toNat % 128) }
  | 2 => { d with sampleAddrReg := v }
  | _ => { d with sampleLenReg := v }

/-- A length counter after its channel-enable bit is written (62_apu.md R561). -/
def lengthEnabled (on : Bool) (l : Length) : Length :=
  { l with enabled := on, len := if on then l.len else 0, pendingLen := if on then l.pendingLen else none }

/-- The APU after a write to 0x4015, in numbers (62_apu.md R561, R593). -/
def statusWritten (v : Byte) (a : Apu) : Apu :=
  let on := fun b => decide (v.toNat / 2 ^ b % 2 = 1)
  let starts := on 4 && decide (a.dmc.bytesLeft.toNat = 0)
  { a with
    pulse1 := { a.pulse1 with lc := lengthEnabled (on 0) a.pulse1.lc }
    pulse2 := { a.pulse2 with lc := lengthEnabled (on 1) a.pulse2.lc }
    triangle := { a.triangle with lc := lengthEnabled (on 2) a.triangle.lc }
    noise := { a.noise with lc := lengthEnabled (on 3) a.noise.lc }
    dmc := { a.dmc with
      bytesLeft := if starts then BitVec.ofNat 12 (16 * a.dmc.sampleLenReg.toNat + 1)
        else if on 4 then a.dmc.bytesLeft else 0
      curAddr := if starts then BitVec.ofNat 16 (0xC000 + 64 * a.dmc.sampleAddrReg.toNat) else a.dmc.curAddr
      dmcIrq := false } }

/-- The sprite height H of 61_ppu.md R500. -/
def spriteRows (s : State) : Nat := if s.ppu.ctrl.toNat / 32 % 2 = 1 then 16 else 8

/-- The OAM byte `k` as a Y coordinate has the scanline in its range (61_ppu.md R500). -/
def spriteReaches (s : State) (k : Nat) : Bool :=
  decide ((cellByte s .oam k).toNat ≤ s.ppu.scanline) &&
    decide (s.ppu.scanline < (cellByte s .oam k).toNat + spriteRows s)

/-- The OAM sprite `n` is in range of the scanline (61_ppu.md R500). -/
def spriteSelected (s : State) (n : Nat) : Bool := spriteReaches s (4 * n)

/-- The overflow loop of 61_ppu.md R500 from sprite `n` on finds one in range: the byte it looks at moves on by one in
each sprite, with the sprite. -/
def overflowSeen (s : State) (n : Nat) : Bool :=
  (List.range (64 - n)).any fun k => spriteReaches s (4 * (n + k) + k % 4)

/-- The pattern bytes of the OAM sprite `n` for the scanline: its row, flipped in its height, of its tile or of its
pair of tiles, the bits of both reversed where the sprite is flipped (61_ppu.md R501). -/
def spritePattern (s : State) (n : Nat) : Byte × Byte :=
  let tile := (cellByte s .oam (4 * n + 1)).toNat
  let attr := (cellByte s .oam (4 * n + 2)).toNat
  let down := s.ppu.scanline - (cellByte s .oam (4 * n)).toNat
  let row := if 128 ≤ attr then spriteRows s - 1 - down else down
  let a := if spriteRows s = 16 then tile % 2 * 0x1000 + tile / 2 * 32 + row / 8 * 16 + row % 8
    else s.ppu.ctrl.toNat / 8 % 2 * 0x1000 + tile * 16 + row
  let lo := s.ppu.read s.cart a
  let hi := s.ppu.read s.cart (a + 8)
  if attr / 64 % 2 = 1 then (lo.reverse, hi.reverse) else (lo, hi)

/-- The background pipeline works at this dot (61_ppu.md R470, R480). -/
def pipelineDot (p : Ppu) : Bool := p.rendering && (decide (p.scanline < 240) || decide (p.scanline = 261))

/-- The step of the 8-dot tile cycle that this dot takes, if it lies in the window of 61_ppu.md R480. -/
def tilePhase (p : Ppu) : Option Nat :=
  if pipelineDot p = true ∧ ((2 ≤ p.dot ∧ p.dot ≤ 257) ∨ (321 ≤ p.dot ∧ p.dot ≤ 337)) then some ((p.dot - 1) % 8)
  else none

/-- A shift register after the dot: shifted in its window, then its low byte loaded with `b` at the first dot of a tile
cycle (61_ppu.md R480, R484). -/
def registerAfter (p : Ppu) (r : BitVec 16) (b : Nat) : Nat :=
  let shifted := if pipelineDot p = true ∧ ((2 ≤ p.dot ∧ p.dot ≤ 257) ∨ (322 ≤ p.dot ∧ p.dot ≤ 337)) then
    2 * r.toNat % 65536 else r.toNat
  if tilePhase p = some 0 then shifted / 256 * 256 + b else shifted

/-- v after the dot (61_ppu.md R480, R485, R486). -/
def scrollAfter (p : Ppu) : BitVec 15 :=
  if pipelineDot p = false then p.v
  else if p.dot = 256 then incY (incX p.v)
  else if p.dot = 257 then copyX p.v p.t
  else if tilePhase p = some 7 then incX p.v
  else if p.scanline = 261 ∧ 280 ≤ p.dot ∧ p.dot ≤ 304 then copyY p.v p.t
  else p.v

/-- `(r & m) != 0` of 61_ppu.md R488: the bit of a shift register that fine X selects, from bit 15 down. -/
def fineBit (p : Ppu) (r : BitVec 16) : Nat := r.toNat * 2 ^ p.x.toNat / 32768 % 2

/-- `bg_pix` (61_ppu.md R488). -/
def backgroundPixel (p : Ppu) (x : Nat) : Nat :=
  if p.mask.toNat / 2 % 2 = 0 ∧ x < 8 then 0 else 2 * fineBit p p.shPatHi + fineBit p p.shPatLo

/-- The pixel of a sprite at column `x`, 0 where it does not cover it (61_ppu.md R502). -/
def spriteBits (e : Sprite) (x : Nat) : Nat :=
  if e.xpos.toNat ≤ x ∧ x < e.xpos.toNat + 8 then
    2 * (e.hi.toNat / 2 ^ (7 - (x - e.xpos.toNat)) % 2) + e.lo.toNat / 2 ^ (7 - (x - e.xpos.toNat)) % 2
  else 0

/-- The entry of the sprite list that gives the sprite pixel at column `x`, with its place in the list (61_ppu.md R502,
R505). -/
def shownSprite (cfg : Params) (p : Ppu) (x : Nat) : Option (Sprite × Nat) :=
  if cfg.sprites = .stub ∨ p.mask.toNat / 16 % 2 = 0 ∨ (p.mask.toNat / 4 % 2 = 0 ∧ x < 8) then none
  else p.spr.zipIdx.find? fun e => spriteBits e.1 x != 0

/-- The palette entry that the pixel at column `x` shows: 0 is the backdrop (61_ppu.md R510; 20_memory.md R172). -/
def pixelEntry (cfg : Params) (p : Ppu) (x : Nat) : Nat :=
  let bg := backgroundPixel p x
  let behind := 4 * (2 * fineBit p p.shAtHi + fineBit p p.shAtLo) + bg
  if p.mask.toNat / 8 % 2 = 0 then 0
  else match shownSprite cfg p x with
    | none => if bg = 0 then 0 else behind
    | some e =>
      if bg = 0 ∨ e.1.attr.toNat / 32 % 2 = 0 then 16 + 4 * (e.1.attr.toNat % 4) + spriteBits e.1 x else behind

/-- The pixel at column `x` is a sprite-zero hit (61_ppu.md R502, R503). -/
def zeroHit (cfg : Params) (p : Ppu) (x : Nat) : Bool :=
  decide (p.mask.toNat / 8 % 2 = 1) && backgroundPixel p x != 0 && x != 255 &&
    (shownSprite cfg p x).any fun e => e.2 == 0 && p.spr0OnLine

/-- The word of five serial bits, in the order the parameter says (63_mapper_and_ports.md R626). -/
def serialWord (order : BitOrder) (b0 b1 b2 b3 b4 : Byte) : Nat :=
  match order with
  | .msbFirst => 16 * (b0.toNat % 2) + 8 * (b1.toNat % 2) + 4 * (b2.toNat % 2) + 2 * (b3.toNat % 2) + b4.toNat % 2
  | .lsbFirst => b0.toNat % 2 + 2 * (b1.toNat % 2) + 4 * (b2.toNat % 2) + 8 * (b3.toNat % 2) + 16 * (b4.toNat % 2)

/-- The MMC1 registers after one write, in numbers (63_mapper_and_ports.md R626). -/
def mmc1Written (order : BitOrder) (a : Addr) (v : Byte) (r : Mmc1) : Mmc1 :=
  if 128 ≤ v.toNat then
    { r with shift := 0, count := 0, control := BitVec.ofNat 5 (r.control.toNat / 16 * 16 + 12 + r.control.toNat % 4) }
  else
    let shift := BitVec.ofNat 5 (match order with
      | .msbFirst => (2 * r.shift.toNat + v.toNat % 2) % 32
      | .lsbFirst => r.shift.toNat / 2 + 16 * (v.toNat % 2))
    if r.count = 4 then
      match a.toNat / 8192 % 4 with
      | 0 => { r with control := shift, shift := 0, count := 0 }
      | 1 => { r with chr0 := shift, shift := 0, count := 0 }
      | 2 => { r with chr1 := shift, shift := 0, count := 0 }
      | _ => { r with prgb := shift, shift := 0, count := 0 }
    else { r with shift := shift, count := r.count + 1 }

/-- The scheme's registers after a CPU write at 0x8000 or above, in numbers (63_mapper_and_ports.md R625, R626, R630 to
R632). -/
def mapperWritten (order : BitOrder) (a : Addr) (v : Byte) : Mapper → Mapper
  | .fixed => .fixed
  | .shiftRegister r => .shiftRegister (mmc1Written order a v r)
  | .lowerBankSelect _ => .lowerBankSelect v
  | .upperBankSelect _ => .upperBankSelect v
  | .coarseBankSelect _ _ => .coarseBankSelect (BitVec.ofNat 3 (v.toNat % 8)) (decide (v.toNat / 16 % 2 = 1))

/-- The PRG page windowed in a half of 0x8000-0xFFFF, by the tables of 63_mapper_and_ports.md R625, R627 and R630 to
R633. -/
def windowPage (c : Cart) (upper : Bool) : Nat :=
  match c.mapper with
  | .fixed => if upper then c.nPrg - 1 else 0
  | .shiftRegister r =>
    let b := r.prgb.toNat % 16
    match r.control.toNat / 4 % 4 with
    | 2 => if upper then b % c.nPrg else 0
    | 3 => if upper then c.nPrg - 1 else b % c.nPrg
    | _ => (2 * (b / 2) + upper.toNat) % c.nPrg
  | .lowerBankSelect bank => if upper then c.nPrg - 1 else bank.toNat % c.nPrg
  | .upperBankSelect bank => if upper then bank.toNat % c.nPrg else 0
  | .coarseBankSelect bank _ => (2 * bank.toNat + upper.toNat) % c.nPrg

/-- The 4 KiB CHR bank behind a half of the pattern tables, by 63_mapper_and_ports.md R623 and R628: the bank numbers
of MMC1, and bank 0 or 1 of page 0 for the other schemes. -/
def patternBank (c : Cart) (upper : Bool) : Nat :=
  match c.mapper with
  | .shiftRegister r =>
    if r.control.toNat / 16 = 1 then (if upper then r.chr1.toNat else r.chr0.toNat)
    else 2 * (r.chr0.toNat / 2) + upper.toNat
  | .fixed => upper.toNat
  | .lowerBankSelect _ => upper.toNat
  | .upperBankSelect _ => upper.toNat
  | .coarseBankSelect _ _ => upper.toNat

/-- The nametable mirroring in force, by 63_mapper_and_ports.md R626 and R634. -/
def mirroringInForce (c : Cart) : Mirroring :=
  match c.mapper with
  | .shiftRegister r =>
    if r.control.toNat % 4 = 0 then .singleScreenLow
    else if r.control.toNat % 4 = 1 then .singleScreenHigh
    else if r.control.toNat % 4 = 2 then .vertical
    else .horizontal
  | .coarseBankSelect _ screen => if screen then .singleScreenHigh else .singleScreenLow
  | .fixed => c.mirroring
  | .lowerBankSelect _ => c.mirroring
  | .upperBankSelect _ => c.mirroring

/-! ### Launch premises -/

/-- `NoFault` (70_reset_and_hazards.md R683). -/
def NoFault (s : State) : Prop := s.fault = none

/-- No length load and no halt is pending in a length counter (70_reset_and_hazards.md R683). -/
def Length.idle (l : Length) : Prop := l.pendingLen = none ∧ l.pendingHalt = none

/-- `NothingInFlight` (70_reset_and_hazards.md R683). -/
def NothingInFlight (s : State) : Prop :=
  s.stall = 0 ∧ s.oamDmaPage = none ∧ s.nmiPending = false ∧ s.trapped = false ∧ s.apu.fcPending = none
    ∧ s.apu.pulse1.lc.idle ∧ s.apu.pulse2.lc.idle ∧ s.apu.triangle.lc.idle ∧ s.apu.noise.lc.idle ∧ s.ppu.w = false

/-- `QuietDevices` (70_reset_and_hazards.md R683). -/
def QuietDevices (s : State) : Prop := irqLine s = false ∧ s.ppu.nmiEnabled = false

/-- `LoadedPowerOn(cart, params)` (70_reset_and_hazards.md R683). -/
def LoadedPowerOn (cfg : Params) (h : Vector Byte 16) (prg chr : List Memory) (s : State) : Prop :=
  bootCart cfg h prg chr = .ok s

/-- `ConformanceStart`: `LoadedPowerOn` with `START_PC` = 0xC000, and the state the rule gives: the registers, cycle
7, the PPU at scanline 0 and dot 21 (70_reset_and_hazards.md R683). -/
def ConformanceStart (s : State) : Prop :=
  (∃ cfg h prg chr, cfg.startPc = some 0xC000#16 ∧ LoadedPowerOn cfg h prg chr s) ∧
    s.regs = { a := 0, x := 0, y := 0, s := 0xFD, pc := 0xC000, p := Flags.ofByte 0x24 } ∧ s.cycles = 7 ∧
    s.ppu.scanline = 0 ∧ s.ppu.dot = 21

/-- `VectorStart(regs, mem)` (70_reset_and_hazards.md R683). -/
def VectorStart (pc : Addr) (a x y sp p : Byte) (mem : Memory) (s : State) : Prop :=
  s.cfg.busMode = .flat64k ∧ ∃ s0, s = setVectorState pc a x y sp p mem s0

/-- The core is in flat mode with no stall, no interrupt request, no fault and no trap: what every test vector starts
from (70_reset_and_hazards.md R681). -/
structure FlatReady (s : State) : Prop where
  mode : s.cfg.busMode = .flat64k
  stall : s.stall = 0
  nmi : s.nmiPending = false
  dma : s.oamDmaPage = none
  fault : s.fault = none
  trapped : s.trapped = false
  hung : s.hung = false

/-! ### The invariant -/

/-- A row of the frame buffer: columns rising, below 256. -/
def rowWf (r : List (Nat × BitVec 6)) : Bool := rising r && keysBelow 256 r

/-- The frame buffer's canonical form: lines rising, below 240, and every row's columns (10_state.md R85). -/
def Frame.wf (f : Frame) : Bool := rising f && keysBelow 240 f && f.all fun l => rowWf l.2

/-- The PPU's part of the invariant: the memories' canonical form and the ranges of 10_state.md R75, R77, R83, R85. -/
structure Ppu.Inv (p : Ppu) : Prop where
  dot : p.dot ≤ 340
  scanline : p.scanline ≤ 261
  fineX : p.x.toNat < 8
  sprites : p.spr.length ≤ 8
  oam : Memory.wf 256 p.oam = true
  vram : Memory.wf 2048 p.vram = true
  palette : Memory.wf 32 p.palette = true
  frame : p.frame.wf = true

/-- The APU's part: the ranges of 10_state.md R90, R93, R94. -/
structure Apu.Inv (cfg : Params) (a : Apu) : Prop where
  fc : a.fc < (a.offsets cfg).o4
  lfsr : a.noise.lfsr ≠ 0
  bitsLeft : 1 ≤ a.dmc.bitsLeft.toNat ∧ a.dmc.bitsLeft.toNat ≤ 8
  curAddr : 0x8000 ≤ a.dmc.curAddr.toNat

/-- The cartridge's part: the memories' canonical form and the range of the MMC1 counter (10_state.md R100, R101). -/
structure Cart.Inv (c : Cart) : Prop where
  pages : 0 < c.nPrg
  prg : Memory.wf (0x4000 * c.nPrg) c.prg = true
  chr : Memory.wf (0x2000 * c.nChr) c.chr = true
  chrRam : Memory.wf 8192 c.chrRam = true
  count : ∀ r, c.mapper = .shiftRegister r → r.count ≤ 4

/-- The invariant of the whole state: every memory in its canonical form, every counter in its range, and no stall that
never ends. -/
structure State.Inv (s : State) : Prop where
  cfg : s.cfg.wellFormed = true
  palPhase : s.palPhase ≤ 4
  ram : Memory.wf 2048 s.ram = true
  exram : Memory.wf 8160 s.exram = true
  sram : Memory.wf 8192 s.sram = true
  flat : Memory.wf 65536 s.flat = true
  ppu : s.ppu.Inv
  apu : s.apu.Inv s.cfg
  cart : s.cart.Inv
  hung : s.hung = false

end Sys2Proof.Machine
end

