-- ==== Sys2Proof/Certificates/Slice0/Obligations.lean ====
section
/-!
DEFINITION. The statements for the provers, in the order of OBLIGATIONS.json but for O4, O5, O6 and O8, which stand with
the PPU and the APU: encoding, operands, instructions, the step and its interrupts, reset and host, memory and devices.
-/

open Sys2Proof Sys2Proof.Machine

/-! ### Encoding -/

/-- Every instruction is read back from its encoding, whatever follows it (30_encoding.md R200 to R204). -/
def Obligations.EncodeThenDecode : Prop :=
  ∀ (i : Instr) (rest : List Byte), i.wellFormed = true → decode (encode i ++ rest) = .ok (i, rest)

/-- What the decoder accepts is the encoding of what it reads (30_encoding.md R200, R203). -/
def Obligations.DecodeThenEncode : Prop :=
  ∀ (i : Instr) (bs rest : List Byte), decode bs = .ok (i, rest) → i.wellFormed = true ∧ bs = encode i ++ rest

/-- Every opcode value decodes, and the decoder refuses a string only where bytes are missing; of the 256 values 151
are official, 80 undocumented, 12 JAM and 13 slots; the operand bytes of an instruction are its mode's; and words
written out from the opcode map and the formats decode to what they stand for (30_encoding.md R200, R202 to R204,
R209, R212). Own to the spec, by its marks: R209 (derived). -/
def Obligations.DecoderTotal : Prop :=
  decode [] = .error .noBytes ∧
  (∀ (op : Byte) (bs : List Byte),
    if bs.length < (opcodeCell op).operandBytes then decode (op :: bs) = .error (.missingOperand op)
    else ∃ i, decode (op :: bs) = .ok (i, bs.drop (opcodeCell op).operandBytes) ∧ i.opcode = op) ∧
  (let map := (List.range 256).map fun n => (opcodeCell (BitVec.ofNat 8 n)).instr 0 0
   (map.filter fun i => i.official).length = 151 ∧
     (map.filter fun i => !i.official && i.mnemonic != .JAM && !i.optional && !i.unstable).length = 80 ∧
     (map.filter fun i => i.mnemonic == .JAM).length = 12 ∧
     (map.filter fun i => i.optional || i.unstable).length = 13) ∧
  (∀ i : Instr, i.operandBytes = operandBytesOf (instrOperand i) ∧
    encode i = i.opcode :: operandBytesOf (instrOperand i)) ∧
  decode [0xA9, 0x10] = .ok (.ldaImm 0x10, []) ∧ decode [0x9D, 0x34, 0x12] = .ok (.staAbx 0x1234, []) ∧
    decode [0x71, 0x20] = .ok (.adcIzy 0x20, []) ∧ decode [0xE0, 0x05] = .ok (.cpxImm 0x05, []) ∧
    decode [0x0A] = .ok (.aslAcc, []) ∧ decode [0x6C, 0xFF, 0x02] = .ok (.jmpInd 0x02FF, []) ∧
    decode [0xD0, 0xFE] = .ok (.bneRel 0xFE, []) ∧ decode [0x48] = .ok (.pha, []) ∧
    decode [0xA7, 0x10] = .ok (.laxZp 0x10, []) ∧ decode [0x02] = .ok (.jam02, [])

/-! ### Operands -/

/-- The effective address of every mode is the number its rule computes, with zero-page sums and pointers wrapping in
page 0, and the address cycles disturb nothing. Where RAM, cartridge RAM or PRG ROM answers there, a read-class
operand is the byte stored when the instruction executes (40_addressing_modes.md R244 to R252, R254; 20_memory.md
R160, R180). -/
def Obligations.EffectiveAddressValue : Prop :=
  (∀ (cls : AccessClass) (m : EaMode) (s : State),
    (effectiveAddress cls m s).1.toNat = specAddress s m ∧ (effectiveAddress cls m s).2.regs = s.regs ∧
      Undisturbed s (effectiveAddress cls m s).2) ∧
  ∀ (m : EaMode) (s : State) (v : Byte),
    storedByte s (BitVec.ofNat 16 (specAddress s m)) = some v → (readOperand m s).1 = v

/-! ### Instructions -/

/-- LDA, LDX, LDY and LAX complete: the register takes the operand, N and Z describe it (41_load_store_transfer.md
R280 to R282, 46_undocumented.md R380). -/
def Obligations.LoadInstructions : Prop :=
  ∀ i : Instr,
    (i.mnemonic = .LDA → ReadCompletes i fun m r => setA m r) ∧
    (i.mnemonic = .LDX → ReadCompletes i fun m r => { r with x := m, p := nz m r.p }) ∧
    (i.mnemonic = .LDY → ReadCompletes i fun m r => { r with y := m, p := nz m r.p }) ∧
    (i.mnemonic = .LAX → ReadCompletes i fun m r => { r with a := m, x := m, p := nz m r.p })

/-- STA, STX, STY and SAX complete: the value is stored at the effective address, registers and flags are kept
(41_load_store_transfer.md R283 to R285, 46_undocumented.md R381). -/
def Obligations.StoreInstructions : Prop :=
  ∀ i : Instr,
    (i.mnemonic = .STA → WriteCompletes i fun r => r.a) ∧ (i.mnemonic = .STX → WriteCompletes i fun r => r.x) ∧
    (i.mnemonic = .STY → WriteCompletes i fun r => r.y) ∧ (i.mnemonic = .SAX → WriteCompletes i fun r => r.a &&& r.x)

/-- The six transfers complete; TXS alone writes no flag (41_load_store_transfer.md R286 to R291). -/
def Obligations.TransferInstructions : Prop :=
  RegisterCompletes .tax (fun r => { r with x := r.a, p := nz r.a r.p }) ∧
  RegisterCompletes .tay (fun r => { r with y := r.a, p := nz r.a r.p }) ∧
  RegisterCompletes .txa (fun r => setA r.x r) ∧ RegisterCompletes .tya (fun r => setA r.y r) ∧
  RegisterCompletes .tsx (fun r => { r with x := r.s, p := nz r.s r.p }) ∧
  RegisterCompletes .txs (fun r => { r with s := r.x })

/-- ADC and SBC (with its undocumented copy) complete with the exact sum and difference, carry, borrow and signed
overflow, whatever D is (42_arithmetic_logic.md R300 to R303, 46_undocumented.md R382). Own to the spec, by its marks:
R301 (D5). -/
def Obligations.AddSubtract : Prop :=
  ∀ i : Instr, (i.mnemonic = .ADC → ReadCompletes i addRegs) ∧ (i.mnemonic = .SBC → ReadCompletes i subRegs)

/-- AND, ORA, EOR, CMP, CPX, CPY and BIT complete; the last four change flags only, and a compare keeps V
(42_arithmetic_logic.md R304 to R310). -/
def Obligations.LogicAndCompare : Prop :=
  ∀ i : Instr,
    (i.mnemonic = .AND → ReadCompletes i fun m r => setA (r.a &&& m) r) ∧
    (i.mnemonic = .ORA → ReadCompletes i fun m r => setA (r.a ||| m) r) ∧
    (i.mnemonic = .EOR → ReadCompletes i fun m r => setA (r.a ^^^ m) r) ∧
    (i.mnemonic = .CMP → ReadCompletes i fun m r => { r with p := cmpFlags r.a m r.p }) ∧
    (i.mnemonic = .CPX → ReadCompletes i fun m r => { r with p := cmpFlags r.x m r.p }) ∧
    (i.mnemonic = .CPY → ReadCompletes i fun m r => { r with p := cmpFlags r.y m r.p }) ∧
    (i.mnemonic = .BIT → ReadCompletes i fun m r =>
      { r with p := { r.p with
          n := topBit m
          v := decide (64 ≤ m.toNat % 128)
          z := decide ((r.a &&& m).toNat = 0) } })

/-- INC and DEC of memory, and INX, INY, DEX and DEY, complete; C and V are kept (42_arithmetic_logic.md R311 to
R316). -/
def Obligations.IncrementDecrement : Prop :=
  (∀ i : Instr, (i.mnemonic = .INC → ModifyCompletes i (fun m _ => m + 1) fun m r => withNZ (m + 1) r) ∧
    (i.mnemonic = .DEC → ModifyCompletes i (fun m _ => m - 1) fun m r => withNZ (m - 1) r)) ∧
  RegisterCompletes .inx (fun r => { r with x := r.x + 1, p := nz (r.x + 1) r.p }) ∧
  RegisterCompletes .iny (fun r => { r with y := r.y + 1, p := nz (r.y + 1) r.p }) ∧
  RegisterCompletes .dex (fun r => { r with x := r.x - 1, p := nz (r.x - 1) r.p }) ∧
  RegisterCompletes .dey (fun r => { r with y := r.y - 1, p := nz (r.y - 1) r.p })

/-- ASL, LSR, ROL and ROR complete, in their memory forms and their accumulator form (40_addressing_modes.md R242,
43_shift_rotate.md R330 to R333). -/
def Obligations.ShiftInstructions : Prop :=
  (∀ (i : Instr) (e : EaMode), instrOperand i = .memory e →
    (i.mnemonic = .ASL → ModifyCompletes i (fun m _ => leftByte false m)
      fun m r => withNZ (leftByte false m) (withC (topBit m) r)) ∧
    (i.mnemonic = .LSR → ModifyCompletes i (fun m _ => rightByte false m)
      fun m r => withNZ (rightByte false m) (withC (lowBit m) r)) ∧
    (i.mnemonic = .ROL → ModifyCompletes i (fun m r => leftByte r.p.c m)
      fun m r => withNZ (leftByte r.p.c m) (withC (topBit m) r)) ∧
    (i.mnemonic = .ROR → ModifyCompletes i (fun m r => rightByte r.p.c m)
      fun m r => withNZ (rightByte r.p.c m) (withC (lowBit m) r))) ∧
  RegisterCompletes .aslAcc (fun r => setA (leftByte false r.a) (withC (topBit r.a) r)) ∧
  RegisterCompletes .lsrAcc (fun r => setA (rightByte false r.a) (withC (lowBit r.a) r)) ∧
  RegisterCompletes .rolAcc (fun r => setA (leftByte r.p.c r.a) (withC (topBit r.a) r)) ∧
  RegisterCompletes .rorAcc (fun r => setA (rightByte r.p.c r.a) (withC (lowBit r.a) r))

/-- DCP, ISB, SLO, RLA, SRE and RRA complete: the byte is modified and stored, and combined into A or compared with it
(46_undocumented.md R383 to R388). -/
def Obligations.CombinedInstructions : Prop :=
  ∀ i : Instr,
    (i.mnemonic = .DCP → ModifyCompletes i (fun m _ => m - 1) fun m r => { r with p := cmpFlags r.a (m - 1) r.p }) ∧
    (i.mnemonic = .ISB → ModifyCompletes i (fun m _ => m + 1) fun m r => subRegs (m + 1) r) ∧
    (i.mnemonic = .SLO → ModifyCompletes i (fun m _ => leftByte false m)
      fun m r => setA (r.a ||| leftByte false m) (withC (topBit m) r)) ∧
    (i.mnemonic = .RLA → ModifyCompletes i (fun m r => leftByte r.p.c m)
      fun m r => setA (r.a &&& leftByte r.p.c m) (withC (topBit m) r)) ∧
    (i.mnemonic = .SRE → ModifyCompletes i (fun m _ => rightByte false m)
      fun m r => setA (r.a ^^^ rightByte false m) (withC (lowBit m) r)) ∧
    (i.mnemonic = .RRA → ModifyCompletes i (fun m r => rightByte r.p.c m)
      fun m r => addRegs (rightByte r.p.c m) (withC (lowBit m) r))

/-- Every NOP completes: the implied ones are one tick, the others their operand's read, with what it does to a
device; and no register changes (44_control_flow.md R354, 46_undocumented.md R389). Own to the spec, by its marks:
R389 (D13). -/
def Obligations.NopInstructions : Prop :=
  ∀ i : Instr, i.mnemonic = .NOP → ∀ s : State,
    if instrOperand i = .implied then
      exec i s = .next (tick s) ∧ (tick s).regs = s.regs ∧ Undisturbed s (tick s)
    else ∃ r, readValue (instrOperand i) s = some r ∧ exec i s = .next r.2 ∧ r.2.regs = s.regs ∧ Undisturbed s r.2

/-- With EXTRA_UNOFFICIAL the optional opcodes complete: ANC, ALR, ARR and SBX on their immediate, LAS on its memory
operand, after the operand's read (46_undocumented.md R392 to R396). Own to the spec, by its marks: R392 (D12), R393
(D12), R394 (D12), R395 (D12), R396 (D12). -/
def Obligations.OptionalInstructions : Prop :=
  ∀ s : State, s.cfg.extraUnofficial = true →
    (∀ i m, i ∈ [Instr.ancImm0B m, Instr.ancImm2B m] → exec i s = .next { s with
      regs := setA (s.regs.a &&& m) (withC (topBit (s.regs.a &&& m)) s.regs) }) ∧
    (∀ m, exec (.alrImm m) s = .next { s with
      regs := setA (rightByte false (s.regs.a &&& m)) (withC (lowBit (s.regs.a &&& m)) s.regs) }) ∧
    (∀ m,
      let a := rightByte s.regs.p.c (s.regs.a &&& m)
      exec (.arrImm m) s = .next { s with
        regs := { s.regs with
          a := a
          p := nz a { s.regs.p with c := a.getLsbD 6, v := (a.getLsbD 6 != a.getLsbD 5) } } }) ∧
    (∀ m, exec (.sbxImm m) s = .next { s with
      regs := { s.regs with
        x := (s.regs.a &&& s.regs.x) - m
        p := cmpFlags (s.regs.a &&& s.regs.x) m s.regs.p } }) ∧
    ∀ w, ∃ r, readValue (.memory (.aby w)) s = some r ∧
      let v := r.1 &&& s.regs.s
      let t := { r.2 with regs := { s.regs with a := v, x := v, s := v, p := nz v s.regs.p } }
      exec (.lasAby w) s = .next t ∧ Undisturbed s t

/-- An unimplemented slot raises the fault with nothing else changed: the six unstable operations for every parameter
value, the five stable ones without EXTRA_UNOFFICIAL; and no other instruction faults (46_undocumented.md R391, R397
to R402; 30_encoding.md R208). Own to the spec, by its marks: R208 (D12), R391 (D12), R397 (D12), R398 (D12), R399
(D12), R400 (D12), R401 (D12), R402 (D12). The model's own: log entry 7. -/
def Obligations.UnimplementedSlots : Prop :=
  ∀ (i : Instr) (s : State),
    (i.unstable = true → i.isSlot s.cfg = true) ∧ (i.optional = true → (i.isSlot s.cfg = !s.cfg.extraUnofficial)) ∧
    if i.isSlot s.cfg then
      exec i s = .fault (.unimplementedOpcode { s with fault := some .unimplementedOpcode })
    else ∃ t, exec i s = .next t

/-- The eight branches complete: taken on their flag, PC moves by the signed offset; not taken, nothing changes
(44_control_flow.md R340 to R348). Own to the spec, by its marks: R340 (D40). -/
def Obligations.BranchInstructions : Prop :=
  ∀ i : Instr,
    (i.mnemonic = .BCC → BranchCompletes i fun p => !p.c) ∧ (i.mnemonic = .BCS → BranchCompletes i fun p => p.c) ∧
    (i.mnemonic = .BNE → BranchCompletes i fun p => !p.z) ∧ (i.mnemonic = .BEQ → BranchCompletes i fun p => p.z) ∧
    (i.mnemonic = .BPL → BranchCompletes i fun p => !p.n) ∧ (i.mnemonic = .BMI → BranchCompletes i fun p => p.n) ∧
    (i.mnemonic = .BVC → BranchCompletes i fun p => !p.v) ∧ (i.mnemonic = .BVS → BranchCompletes i fun p => p.v)

/-- JMP completes: the absolute form goes to its operand; the indirect form to the word whose high byte is read at the
start of the pointer's page when the pointer ends in FF (44_control_flow.md R349, 40_addressing_modes.md R250). -/
def Obligations.JumpInstructions : Prop :=
  ∀ (w : Addr) (s : State),
    (Completes (.jmpAbs w) s fun t => t.regs = { s.regs with pc := w } ∧ Undisturbed s t) ∧
    Completes (.jmpInd w) s fun t => t.regs = { s.regs with pc := t.regs.pc } ∧ Undisturbed s t ∧
      ∀ lo hi, storedByte s w = some lo →
        storedByte s (BitVec.ofNat 16 (w.toNat / 256 * 256 + (w.toNat + 1) % 256)) = some hi →
        t.regs.pc.toNat = lo.toNat + 256 * hi.toNat

/-- JSR completes: it pushes the address of its last byte, high byte first, S goes down by two, and the target's low
byte is the fetched one; where storage outside the two pushed slots holds the high byte, that is the target's
(44_control_flow.md R350). The model's own: log entry 8. -/
def Obligations.SubroutineCall : Prop :=
  ∀ (w : Addr) (s : State), Completes (.jsrAbs w) s fun t =>
    t.regs = { s.regs with s := s.regs.s - 2, pc := t.regs.pc } ∧
      stackByte t s.regs.s = BitVec.ofNat 8 (s.regs.pc.toNat / 256) ∧
      stackByte t (s.regs.s - 1) = BitVec.ofNat 8 s.regs.pc.toNat ∧
      (∀ k a, (k, a) ≠ stackCell s s.regs.s → (k, a) ≠ stackCell s (s.regs.s - 1) →
        cellByte t k a = cellByte s k a) ∧
      KeptControl s t ∧ Clocked s t ∧ t.regs.pc.toNat % 256 = w.toNat % 256 ∧
      ∀ hi, storedByte s s.regs.pc = some hi → storeTarget s s.regs.pc ≠ some (stackCell s s.regs.s) →
        storeTarget s s.regs.pc ≠ some (stackCell s (s.regs.s - 1)) → t.regs.pc.toNat / 256 = hi.toNat

/-- RTS and RTI complete: RTS pulls PC and adds one; RTI pulls P, whose bits 5:4 are ignored, then PC, and adds
nothing (44_control_flow.md R351, R352; 10_state.md R48). Own to the spec, by its marks: R48 (D6). -/
def Obligations.ReturnInstructions : Prop :=
  ∀ s : State,
    (Completes .rts s fun t => Undisturbed s t ∧ t.regs = { s.regs with
        s := s.regs.s + 2
        pc := BitVec.ofNat 16
          ((stackByte s (s.regs.s + 1)).toNat + 256 * (stackByte s (s.regs.s + 2)).toNat + 1) }) ∧
    Completes .rti s fun t => Undisturbed s t ∧ t.regs = { s.regs with
        s := s.regs.s + 3
        p := Flags.ofByte (stackByte s (s.regs.s + 1))
        pc := BitVec.ofNat 16
          ((stackByte s (s.regs.s + 2)).toNat + 256 * (stackByte s (s.regs.s + 3)).toNat) }

/-- BRK completes in its handler: the address two past the opcode and P with break field 11 are pushed, I is set, PC
comes from the IRQ vector, or from the NMI vector if an NMI is pending after the status push, which the entry then
takes: none is pending any more where the two vector cycles cannot raise one (44_control_flow.md R353;
60_exceptions.md R420, R423; 10_state.md R51). PC of `s` is one past the opcode. Own to the spec, by its marks: R420
(D6, D9), R423 (D9). -/
def Obligations.BreakInstruction : Prop :=
  ∀ s : State, ∃ nmi, Completes .brk s fun t =>
    Entered .brk (s.regs.pc + 1) (if nmi then 0xFFFA#16 else 0xFFFE#16) s t ∧
      nmi = (enterPush .brk (setPc (s.regs.pc + 1) (tick s))).nmiPending ∧ (s.nmiPending = true → nmi = true) ∧
      (nmi = true → NoNewNmi s t → t.nmiPending = false)

/-- PHA, PHP, PLA and PLP complete: PHP pushes the break field 11, PLA sets N and Z, PLP takes the six flags and
ignores bits 5:4. P is the byte 128 N + 64 V + 32 + 8 D + 4 I + 2 Z + C, and a byte sets each flag from its bit
(45_stack_flags.md R360 to R363; 10_state.md R45, R47, R48). Own to the spec, by its marks: R47 (D6), R48 (D6), R361
(D6). -/
def Obligations.StackInstructions : Prop :=
  (∀ p : Flags, p.toByte.toNat =
    128 * p.n.toNat + 64 * p.v.toNat + 32 + 8 * p.d.toNat + 4 * p.i.toNat + 2 * p.z.toNat + p.c.toNat) ∧
  (∀ b : Byte, Flags.ofByte b =
    { n := decide (b.toNat / 128 = 1), v := decide (b.toNat / 64 % 2 = 1), d := decide (b.toNat / 8 % 2 = 1)
      i := decide (b.toNat / 4 % 2 = 1), z := decide (b.toNat / 2 % 2 = 1), c := decide (b.toNat % 2 = 1) }) ∧
  PushCompletes .pha (fun r => r.a) ∧ PushCompletes .php (fun r => BitVec.ofNat 8 (r.p.toByte.toNat + 16)) ∧
  ∀ s : State,
    (Completes .pla s fun t => Undisturbed s t ∧
      t.regs = setA (stackByte s (s.regs.s + 1)) { s.regs with s := s.regs.s + 1 }) ∧
    Completes .plp s fun t => Undisturbed s t ∧
      t.regs = { s.regs with s := s.regs.s + 1, p := Flags.ofByte (stackByte s (s.regs.s + 1)) }

/-- The seven flag instructions complete and change their flag alone (45_stack_flags.md R364 to R370). -/
def Obligations.FlagInstructions : Prop :=
  RegisterCompletes .clc (fun r => { r with p := { r.p with c := false } }) ∧
  RegisterCompletes .sec (fun r => { r with p := { r.p with c := true } }) ∧
  RegisterCompletes .cli (fun r => { r with p := { r.p with i := false } }) ∧
  RegisterCompletes .sei (fun r => { r with p := { r.p with i := true } }) ∧
  RegisterCompletes .cld (fun r => { r with p := { r.p with d := false } }) ∧
  RegisterCompletes .sed (fun r => { r with p := { r.p with d := true } }) ∧
  RegisterCompletes .clv (fun r => { r with p := { r.p with v := false } })

/-- The twelve JAMs complete: the CPU is trapped, in no further cycle; and a step with a JAM does no OAM DMA and no
interrupt check (46_undocumented.md R390, 60_exceptions.md R410). Own to the spec, by its marks: R390 (D14), R410 (D7,
D10, D19). -/
def Obligations.JamInstructions : Prop :=
  ∀ i : Instr, i.mnemonic = .JAM → ∀ s, exec i s = .next { s with trapped := true } ∧
    ∀ iBefore, finishStep i.mnemonic iBefore { s with trapped := true } = { s with trapped := true }

/-! ### The step -/

/-- A step runs the decoded instruction: with no fault and no trap, where storage holds an instruction's bytes at PC,
they are fetched with PC going past those the instruction does not fetch itself and nothing else disturbed, the
instruction executes, and the end of the step follows (60_exceptions.md R410, 40_addressing_modes.md R240). JSR
fetches its last byte in its execution and a slot fetches no operand (log entry 8). A stall that never ends stops the
step (log entry 6). Own to the spec, by its marks: R410 (D7, D10, D19). The model's own: log entries 6, 8. -/
def Obligations.StepRunsDecoded : Prop :=
  ∀ (s : State) (bs : List Byte) (i : Instr), s.fault = none → s.trapped = false → decode bs = .ok (i, []) →
    (∀ k, k < bs.length → storedByte s (s.regs.pc + BitVec.ofNat 16 k) = bs[k]?) →
    let fetched := if i.isSlot s.cfg then 1 else if i.mnemonic = .JSR then 2 else bs.length
    ∃ u, u.regs = { s.regs with pc := s.regs.pc + BitVec.ofNat 16 fetched } ∧
      Undisturbed { s with delta := 0 } u ∧
      step s = if u.hung = true then .fault (.endlessStall u) else
        match exec i u with
        | .next t =>
          let e := finishStep i.mnemonic s.regs.p.i t
          if e.hung = true then .fault (.endlessStall e) else .next e
        | .fault r => .fault r
        | .refused r => .refused r

/-- A trapped CPU stays trapped: a step is one idle cycle, a tick, that changes no register and no memory and takes no
interrupt; and a faulted core takes no step (46_undocumented.md R390; 60_exceptions.md R410; 00_scope.md R17). The
tick ends but where a stall before it never does (log entry 6). Own to the spec, by its marks: R390 (D14), R410 (D7,
D10, D19). The model's own: log entries 6, 7. -/
def Obligations.TrappedAndFaulted : Prop :=
  ∀ s : State,
    (s.fault = none → s.trapped = true →
      let t := tick { s with delta := 0 }
      (t.hung = false → step s = .next t) ∧ (t.hung = true → step s = .fault (.endlessStall t)) ∧
        (s.hung = false → s.stall = 0 ∨ s.cfg.dmcStallCycles < 400 ∨ s.apu.dmc.loop = false → t.hung = false) ∧
        t.trapped = true ∧ t.regs = s.regs ∧ Undisturbed { s with delta := 0 } t) ∧
    ∀ kind, s.fault = some kind → step s = .fault (.alreadyFaulted kind s)

/-- A step of a core with no fault ends in a next state, or in the unimplemented-opcode fault of a slot just fetched,
with the registers but PC kept, PC one past the opcode and every byte of memory kept; it is never refused (00_scope.md
R18; 60_exceptions.md R412, R440). With fewer than 400 stall cycles for each DMC fetch no stall is endless (log entry
6). Own to the spec, by its marks: R18 (D12), R412 (derived). The model's own: log entries 6, 7. -/
def Obligations.StepOutcomes : Prop :=
  ∀ s : State, s.fault = none →
    match step s with
    | .next t => t.fault = none ∧ t.hung = false
    | .fault (.endlessStall t) => t.hung = true ∧ (s.hung = true ∨ 400 ≤ s.cfg.dmcStallCycles)
    | .fault (.unimplementedOpcode t) => t.fault = some .unimplementedOpcode ∧
        t.regs = { s.regs with pc := s.regs.pc + 1 } ∧ SameBytes s t ∧ t.trapped = false ∧
        (fetchInstr { s with delta := 0 }).1.isSlot s.cfg = true
    | .fault (.alreadyFaulted _ _) => False
    | .refused _ => False

/-- Every step of a core with no fault, one that ends in the fault too, takes at least one cycle, `delta` counts its
cycles, and it changes no parameter, no ROM byte and no page count (10_state.md R50, R54; 00_scope.md R10;
63_mapper_and_ports.md R622, R623). Own to the spec, by its marks: R623 (D36). -/
def Obligations.StepClock : Prop :=
  ∀ s t : State, s.fault = none → stepState s = t → 1 ≤ t.delta ∧ t.cycles = s.cycles + t.delta ∧ t.cfg = s.cfg ∧
    (∀ a, cellByte t .prg a = cellByte s .prg a) ∧ (∀ a, cellByte t .chr a = cellByte s .chr a) ∧
    t.cart.nPrg = s.cart.nPrg ∧ t.cart.nChr = s.cart.nChr

/-- THE INVARIANT: every step keeps every memory in its canonical form and every counter of the PPU, the APU and the
mapper in its range, from every state that has them so (10_state.md R56, R60, R61, R77, R82 to R85, R90, R93, R94,
R100, R101; 20_memory.md R145). Own to the spec, by its marks: R56 (D21), R61 (D35), R77 (D15), R83 (D30), R84 (D33),
R90 (D46), R93 (D46), R94 (D46), R100 (D36), R101 (D24), R145 (D39). The model's own: log entries 2, 5, 6, 14, 17. -/
def Obligations.StepKeepsInvariant : Prop := ∀ s t : State, s.Inv → step s = .next t → t.Inv

/-- The invariant holds right after reset. The model's own: log entries 1, 2, 5, 6, 14, 17. -/
def Obligations.ResetHasInvariant : Prop := State.reset.Inv

/-- CYCLE COUNTS: in flat mode a step takes the opcode's base cycles, one more for an indexed read across a page, one
more for a taken branch and one more for a taken branch across a page; a slot faults after one cycle; and no interrupt
is taken (40_addressing_modes.md R257, R259; 70_reset_and_hazards.md R679, R681). Own to the spec, by its marks: R257
(derived), R259 (derived), R681 (D39). The model's own: log entry 11. -/
def Obligations.FlatCycleCounts : Prop :=
  ∀ (s : State) (i : Instr) (rest : List Byte), FlatReady s →
    decode [cellByte s .flat s.regs.pc.toNat, cellByte s .flat (s.regs.pc + 1).toNat,
      cellByte s .flat (s.regs.pc + 2).toNat] = .ok (i, rest) →
    if i.isSlot s.cfg then
      ∃ t, step s = .fault (.unimplementedOpcode t) ∧ t.delta = 1
    else
      ∃ t, step s = .next t ∧ t.nmiPending = false ∧ t.stall = 0 ∧ t.delta = i.baseCycles + extraCycles i s

/-! ### Interrupts -/

/-- Taking an IRQ or an NMI: PC and P with break field 10 are pushed, I is set, PC comes from the sequence's vector
or, if an NMI is pending after the status push, from the NMI vector; the next check sees I = 1. An NMI vector taken
leaves no NMI pending where the two vector cycles cannot raise one (60_exceptions.md R413, R420 to R423; 10_state.md
R51). Own to the spec, by its marks: R413 (D8, D10, D45), R420 (D6, D9), R422 (derived), R423 (D9). -/
def Obligations.InterruptEntry : Prop :=
  ∀ (kind : EntryKind) (s : State), kind ≠ .brk → ∃ t,
    takeInterrupt kind s = { t with iPoll := true, prevCli := false } ∧
    Entered kind s.regs.pc
      (if kind = .nmi ∨ (enterPush kind s).nmiPending = true then 0xFFFA#16 else 0xFFFE#16) s t ∧
    (kind = .nmi ∨ (enterPush kind s).nmiPending = true → NoNewNmi s t → t.nmiPending = false) ∧
    (s.nmiPending = true → (enterPush kind s).nmiPending = true) ∧ kind.breakField = 0x20

/-- Which interrupt the end of a step takes: none after BRK; else a pending NMI; else an IRQ while the line is high,
the polled I is 0 and this is not an RTI right after a CLI. The polled I is the one from before the instruction for
the mnemonics of LATE_I_SET (60_exceptions.md R410, R413 to R418). Own to the spec, by its marks: R410 (D7, D10, D19),
R413 (D8, D10, D45), R414 (D7), R415 (D8), R416 (D10, D31), R417 (D11), R418 (derived). -/
def Obligations.InterruptSelection : Prop :=
  ∀ (m : Mnemonic) (iBefore : Bool) (s : State), m ≠ .JAM →
    let d := runOamDma s
    let poll := if m ∈ d.cfg.lateISet then iBefore else d.regs.p.i
    let u := { d with iPoll := poll, prevCli := decide (m = .CLI) }
    finishStep m iBefore s =
      if m = .BRK then u
      else if d.nmiPending = true then takeInterrupt .nmi u
      else if irqLine d = true ∧ poll = false ∧ ¬(m = .RTI ∧ d.prevCli = true) then takeInterrupt .irq u
      else u

/-- OAM DMA: with rendering off and no DMC sample playing, it takes 513 cycles, or 514 if the first one's number is
odd, and copies the 256 bytes of the page to OAM from OAMADDR on, wrapping; registers and every other byte are kept
(61_ppu.md R520, R521). Own to the spec, by its marks: R520 (D19), R521 (derived). -/
def Obligations.OamDmaTransfer : Prop :=
  ∀ (page : Byte) (s : State), s.cfg.busMode = .console → s.oamDmaPage = some page → s.ppu.rendering = false →
    s.stall = 0 → s.apu.dmc.bytesLeft = 0 →
    let t := runOamDma s
    t.cycles = s.cycles + 513 + s.cycles % 2 ∧ t.delta = s.delta + 513 + s.cycles % 2 ∧ t.oamDmaPage = none ∧
      t.regs = s.regs ∧ t.ppu.oamaddr = s.ppu.oamaddr ∧
      (∀ i v, i < 256 → storedByte s (BitVec.ofNat 16 (256 * page.toNat + i)) = some v →
        cellByte t .oam ((s.ppu.oamaddr.toNat + i) % 256) = v) ∧
      ∀ k a, (k = .oam → 256 ≤ a) → cellByte t k a = cellByte s k a

/-! ### Reset and host -/

/-- An external reset sets the CPU registers and run state, loads PC from START_PC or the RESET vector, keeps the
fault, every byte of memory, the mapper, the control registers of the devices and the parameters, drops a pending NMI
(none is pending after it where its cycles can raise none) and the stall owed, and takes seven cycles where no DMC
sample plays; the DMC address is in the range the invariant keeps. No stall of it is endless with fewer than 400 stall
cycles for a fetch (log entry 6) (70_reset_and_hazards.md R661, R663, R664). Own to the spec, by its marks: R661
(D15), R663 (D16), R664 (derived). The model's own: log entry 6. -/
def Obligations.ExternalReset : Prop :=
  ∀ s : State, 0x8000 ≤ s.apu.dmc.curAddr.toNat →
    let t := externalReset s
    t.regs = { a := 0, x := 0, y := 0, s := 0xFD, pc := t.regs.pc, p := Flags.ofByte 0x24 } ∧
      some t.regs.pc = (match s.cfg.startPc with
        | some pc => some pc
        | none => storedWord s 0xFFFC#16) ∧
      t.trapped = false ∧ t.oamDmaPage = none ∧ t.iPoll = true ∧ t.prevCli = false ∧ t.fault = s.fault ∧
      t.cfg = s.cfg ∧ SameBytes s t ∧ t.cart.mapper = s.cart.mapper ∧ t.ppu.ctrl = s.ppu.ctrl ∧
      t.ppu.mask = s.ppu.mask ∧ t.apu.settings = s.apu.settings ∧ t.pads = s.pads ∧
      (s.cfg.busMode = .flat64k ∨ s.ppu.ctrl.toNat < 128 → t.nmiPending = false) ∧
      (s.cfg.dmcStallCycles < 400 → t.hung = false) ∧
      (s.apu.dmc.bytesLeft = 0 → t.cycles = s.cycles + 7 ∧ t.delta = 7 ∧ t.stall = 0)

/-- Power-on: with the default parameters and any START_PC the documented values hold, and with any parameters no
fault is set and nothing is in flight, which a conformance start inherits; every cartridge that loads under the
default parameters with START_PC = 0xC000 gives one (70_reset_and_hazards.md R660 to R662, R683). Own to the spec, by
its marks: R660 (D15, D16), R661 (D15), R662 (derived). The model's own: log entry 1. -/
def Obligations.PowerOn : Prop :=
  (∀ (start : Option Addr) (cart : Cart),
    let t := powerOn { Params.default with startPc := start } cart
    t.regs = { a := 0, x := 0, y := 0, s := 0xFD, pc := t.regs.pc, p := Flags.ofByte 0x24 } ∧
      t.regs.pc = (match start with
        | some pc => pc
        | none => BitVec.ofNat 16 ((cart.prgByte 0xFFFC).toNat + 256 * (cart.prgByte 0xFFFD).toNat)) ∧
      t.cycles = 7 ∧ t.delta = 7 ∧ t.iPoll = true ∧ t.prevCli = false ∧ t.cart = cart ∧
      t.ppu = { Ppu.reset with dot := 21, frame := t.ppu.frame } ∧ t.apu.fc = 7 ∧ t.apu.phase = true ∧
      t.apu.settings = Apu.reset.settings ∧ irqLine t = false ∧ t.pads.strobe = false ∧ t.pads.shift1 = 0 ∧
      t.pads.shift2 = 0) ∧
  (∀ (cfg : Params) (cart : Cart), NoFault (powerOn cfg cart) ∧ NothingInFlight (powerOn cfg cart)) ∧
  (∀ s : State, ConformanceStart s → NoFault s ∧ NothingInFlight s) ∧
  ∀ (h : Vector Byte 16) (prg chr : List Memory) (s : State),
    LoadedPowerOn { Params.default with startPc := some 0xC000 } h prg chr s → ConformanceStart s

/-- `initialize` fails with InvalidHeader for a wrong magic, no PRG page or page arrays that do not match, else with
UnsupportedMapper for an id that MAPPER_IDS does not name, else gives the power-on state of the cartridge, which holds
the pages, no CHR RAM byte, and the scheme of the id at its reset values (63_mapper_and_ports.md R620, R624;
10_state.md R101; log entry 15 says which page arrays match). Own to the spec, by its marks: R101 (D24), R620 (D24,
D36), R624 (D16). The model's own: log entry 15. -/
def Obligations.LoadErrors : Prop :=
  ∀ (cfg : Params) (h : Vector Byte 16) (prg chr : List Memory),
    let bad := h.toList.take 4 ≠ [0x4E#8, 0x45#8, 0x53#8, 0x1A#8] ∨ h[4] = 0 ∨ prg.length ≠ h[4].toNat ∨
      chr.length ≠ h[5].toNat ∨ (∃ p ∈ prg, Memory.wf 0x4000 p = false) ∨ (∃ p ∈ chr, Memory.wf 0x2000 p = false)
    let id := h[7].toNat / 16 * 16 + h[6].toNat / 16
    (bad → bootCart cfg h prg chr = .error .invalidHeader) ∧
    (¬bad → (∀ q ∈ cfg.mapperIds, q.1 ≠ id) → bootCart cfg h prg chr = .error .unsupportedMapper) ∧
    (∀ q, ¬bad → cfg.mapperIds.find? (fun q => q.1 == id) = some q → ∃ cart,
      bootCart cfg h prg chr = .ok (powerOn cfg cart) ∧
      (∀ k p i v, prg[k]? = some p → p.read i = some v → cart.prg.read (0x4000 * k + i) = some v) ∧
      (∀ k p i v, chr[k]? = some p → p.read i = some v → cart.chr.read (0x2000 * k + i) = some v) ∧
      cart.chrRam = [] ∧
      cart.mapper = (match q.2 with
        | .fixed => .fixed
        | .shiftRegister =>
          .shiftRegister { shift := 0, count := 0, control := 0x0C, chr0 := 0, chr1 := 0, prgb := 0 }
        | .lowerBankSelect => .lowerBankSelect 0
        | .upperBankSelect => .upperBankSelect 0
        | .coarseBankSelect => .coarseBankSelect 0 false) ∧
      cart.nPrg = h[4].toNat ∧ cart.nChr = h[5].toNat ∧ cart.mapperId = id ∧
      cart.mirroring = (if h[6].toNat / 8 % 2 = 1 then .fourScreen
        else if h[6].toNat % 2 = 1 then .vertical else .horizontal) ∧ Cart.Inv cart)

/-- A loaded fixed-mapping cartridge reads back its pages through the windows, with no side effect: two PRG pages in
the two halves, one PRG page in both, one CHR page in the pattern tables (63_mapper_and_ports.md R635). Own to the
spec, by its marks: R635 (derived). The model's own: log entry 15. -/
def Obligations.FixedRoundTrip : Prop :=
  ∀ (cfg : Params) (h : Vector Byte 16) (prg chr : List Memory) (s : State), cfg.busMode = .console →
    LoadedPowerOn cfg h prg chr s → s.cart.mapper = .fixed →
    (∀ p0 p1 i v, prg = p0 :: [p1] → i < 0x4000 →
      (p0.read i = some v → busRead (BitVec.ofNat 16 (0x8000 + i)) s = (v, s)) ∧
      (p1.read i = some v → busRead (BitVec.ofNat 16 (0xC000 + i)) s = (v, s))) ∧
    (∀ p0 i v, prg = [p0] → i < 0x4000 → p0.read i = some v →
      busRead (BitVec.ofNat 16 (0x8000 + i)) s = (v, s) ∧ busRead (BitVec.ofNat 16 (0xC000 + i)) s = (v, s)) ∧
    ∀ c0 a v, chr = [c0] → a < 0x2000 → c0.read a = some v → s.ppu.read s.cart a = v

/-- The driver. `advance` returns at the first step boundary at which the budget is used or the core has a fault,
`advance_to_next_vblank` at the first after its start at which the vblank signal is set or the core has a fault; both
give the cycles used, the sum of the steps' cycles, and `advance` overruns its budget by less than its last step. A
run from a launch under either call ends at the first boundary with a fault, a trap or the driver's condition, in that
order. Such a boundary comes for `advance` and a run under a budget, but for a stall that never ends (log entry 6);
for vblank nothing is said of when it comes (log entry 16) (70_reset_and_hazards.md R680, R682). Own to the spec, by
its marks: R680 (D38), R682 (D14, D38). The model's own: log entries 6, 16. -/
def Obligations.DriverBoundaries : Prop :=
  (∀ (budget : Nat) (s : State),
    (∀ r, advance budget s = some r ↔ ∃ n, FirstBoundary (fun used t => budget ≤ used ∨ t.fault ≠ none) n s ∧
      r = { used := cyclesUsed n s, fault := (afterSteps n s).fault, core := afterSteps n s }) ∧
    (∀ r, advance budget s = some r → r.core.cycles = s.cycles + r.used ∧
      (0 < budget → s.fault = none → r.used < budget + r.core.delta)) ∧
    (advance budget s = none → ∃ n, (afterSteps n s).hung = true) ∧
    ((∃ r, RunEnds (.budget budget) s r) ∨ ∃ n, (afterSteps n s).hung = true)) ∧
  (∀ (s : State) (r : DriverResult),
    let u := { s with ppu := { s.ppu with vblEvent := false } }
    VblankReturns s r ↔ ∃ n, FirstBoundary (fun _ t => t.ppu.vblEvent = true ∨ t.fault ≠ none) n u ∧
      r = { used := cyclesUsed n u, core := afterSteps n u
            fault := if (afterSteps n u).ppu.vblEvent = true then none else (afterSteps n u).fault }) ∧
  ∀ (c : DriverCall) (s : State) (r : RunResult),
    RunEnds c s r ↔ ∃ n,
      let u := c.start s
      let t := afterSteps n u
      FirstBoundary (fun used v => v.fault ≠ none ∨ v.trapped = true ∨ c.met used v = true) n u ∧
        r.core = t ∧ r.used = cyclesUsed n u ∧
        (∀ kind, t.fault = some kind → r.ended = .faulted kind) ∧
        (t.fault = none → t.trapped = true → r.ended = .halted) ∧
        (t.fault = none → t.trapped = false → r.ended = .suspended)

/-! ### The bus -/

/-- Internal RAM is mirrored every 0x800: a read gives and a write stores the byte of `addr & 0x07FF` (20_memory.md
R141). -/
def Obligations.RamMirror : Prop :=
  ∀ (s : State) (addr : Addr) (v : Byte), s.cfg.busMode = .console → addr.toNat < 0x2000 →
    busRead addr s = (cellByte s .ram (addr.toNat % 0x800), s) ∧
    (∀ k a, cellByte (busWrite addr v s) k a = if k = .ram ∧ a = addr.toNat % 0x800 then v else cellByte s k a) ∧
    ∀ other : Addr, other.toNat < 0x2000 → other.toNat % 0x800 = addr.toNat % 0x800 →
      (busRead other (busWrite addr v s)).1 = v

/-- After a write below the bank registers (or anywhere in flat mode), every stored byte the CPU can read is the last
one written there: the written one at the same cell, the old one at any other (20_memory.md R180). -/
def Obligations.StorageReadAfterWrite : Prop :=
  ∀ (s : State) (a b : Addr) (v w : Byte), (a.toNat < 0x8000 ∨ s.cfg.busMode = .flat64k) → storedByte s b = some w →
    storedByte (busWrite a v s) b =
        some (if storeTarget s a ≠ none ∧ storeTarget s b = storeTarget s a then v else w) ∧
      (busRead b s).1 = w ∧ (busRead b s).2 = s

/-- Writes that nothing decodes change no state: 0x4018 to 0x401F, 0x4009, 0x400D, and PRG space under the fixed
scheme (20_memory.md R143). -/
def Obligations.WritesIgnored : Prop :=
  ∀ (s : State) (a : Addr) (v : Byte), s.cfg.busMode = .console →
    ((0x4018 ≤ a.toNat ∧ a.toNat < 0x4020) ∨ a.toNat = 0x4009 ∨ a.toNat = 0x400D ∨
      (0x8000 ≤ a.toNat ∧ s.cart.mapper = .fixed)) → busWrite a v s = s

/-- What a read of the console bus changes: nothing in RAM and cartridge space; a free draw at an undriven address;
the frame interrupt at 0x4015; the shift register at a port; the latch, and for PPUSTATUS and PPUDATA their state, at
a PPU register. The status bits of 0x4015 and the zero bits 4:1 of a port are as their rules say (20_memory.md R140,
R144, R154; 61_ppu.md R462, R466, R467; 62_apu.md R562; 63_mapper_and_ports.md R642). Own to the spec, by its marks:
R144 (D18), R462 (D31), R466 (D27), R467 (D18, D32), R562 (D18), R642 (D34). The model's own: log entries 3, 4. -/
def Obligations.BusReadEffects : Prop :=
  ∀ (s : State) (a : Addr), s.cfg.busMode = .console →
    let b := (busRead a s).1
    let t := (busRead a s).2
    (a.toNat < 0x2000 ∨ 0x4020 ≤ a.toNat → t = s) ∧
    (0x2000 ≤ a.toNat → a.toNat < 0x4000 → t = { s with ppu := t.ppu } ∧ t.ppu.latch = b ∧
      (a.toNat % 8 ∉ [2, 7] → t.ppu = { s.ppu with latch := b }) ∧
      (a.toNat % 8 ∉ [2, 4, 7] → b = s.ppu.latch) ∧
      (a.toNat % 8 = 2 → t.ppu = { s.ppu with latch := b, vblank := false, w := false } ∧
        b.toNat = 128 * s.ppu.vblank.toNat + 64 * s.ppu.sprite0Hit.toNat + 32 * s.ppu.spriteOverflow.toNat
          + s.ppu.latch.toNat % 32) ∧
      (a.toNat % 8 = 4 → b = cellByte s .oam s.ppu.oamaddr.toNat) ∧
      (a.toNat % 8 = 7 →
        t.ppu = { s.ppu with latch := b, v := t.ppu.v, buffer := t.ppu.buffer } ∧
        t.ppu.v.toNat = (s.ppu.v.toNat + (if s.ppu.ctrl.toNat / 4 % 2 = 1 then 32 else 1)) % 32768 ∧
        (s.ppu.v.toNat % 0x4000 < 0x3F00 →
          b = s.ppu.buffer ∧ t.ppu.buffer = s.ppu.read s.cart (s.ppu.v.toNat % 0x4000)) ∧
        (0x3F00 ≤ s.ppu.v.toNat % 0x4000 → b = s.ppu.read s.cart (s.ppu.v.toNat % 0x4000) ∧
          t.ppu.buffer = s.ppu.read s.cart (s.ppu.v.toNat % 0x4000 - 0x1000)))) ∧
    ((0x4000 ≤ a.toNat ∧ a.toNat < 0x4015) ∨ (0x4018 ≤ a.toNat ∧ a.toNat < 0x4020) →
      t = { s with draws := t.draws }) ∧
    (a.toNat = 0x4015 → t = { s with draws := t.draws, apu := { s.apu with frameIrq := false } } ∧
      b.toNat / 128 = s.apu.dmc.dmcIrq.toNat ∧ b.toNat / 64 % 2 = s.apu.frameIrq.toNat ∧
      (b.toNat / 16 % 2 = 0 ↔ s.apu.dmc.bytesLeft = 0) ∧ (b.toNat / 8 % 2 = 0 ↔ s.apu.noise.lc.len = 0) ∧
      (b.toNat / 4 % 2 = 0 ↔ s.apu.triangle.lc.len = 0) ∧ (b.toNat / 2 % 2 = 0 ↔ s.apu.pulse2.lc.len = 0) ∧
      (b.toNat % 2 = 0 ↔ s.apu.pulse1.lc.len = 0)) ∧
    (a.toNat = 0x4016 ∨ a.toNat = 0x4017 → t = { s with draws := t.draws, pads := t.pads } ∧
      t.pads.strobe = s.pads.strobe ∧ t.pads.host = s.pads.host ∧ b.toNat / 2 % 16 = 0)

/-! ### The PPU -/

/-- The palette has 32 entries, mirrored, with the four backdrop entries aliased: a write through an address is seen
by a read through every address of the same entry and by no other (20_memory.md R172). -/
def Obligations.PaletteAlias : Prop :=
  ∀ (c : Cart) (p : Ppu) (a b : Nat) (v : Byte), 0x3F00 ≤ a → a < 0x4000 → 0x3F00 ≤ b → b < 0x4000 →
    palIndex a = (if a % 32 ∈ [0x10, 0x14, 0x18, 0x1C] then a % 32 - 0x10 else a % 32) ∧
    p.read c a = Memory.byte .palette p.palette (palIndex a) ∧
    (p.write c a v).read c b = if palIndex a = palIndex b then v else p.read c b

/-- Nametable addresses fall into the 2 KiB of VRAM by the mirroring mode's table, 0x3000 to 0x3EFF like 0x2000 to
0x2EFF; a write is seen by a read through every address of the same cell and by no other (20_memory.md R171). Own to
the spec, by its marks: R171 (D26, D27). -/
def Obligations.NametableMirroring : Prop :=
  ∀ (c : Cart) (p : Ppu) (a b : Nat) (v : Byte), 0x2000 ≤ a → a < 0x3F00 → 0x2000 ≤ b → b < 0x3F00 →
    let cell := fun x => 1024 * (match c.effectiveMirroring with
      | .horizontal => if x % 4096 < 2048 then 0 else 1
      | .vertical => if x % 2048 < 1024 then 0 else 1
      | .singleScreenLow => 0
      | .singleScreenHigh => 1
      | .fourScreen => if x % 4096 < 2048 then 0 else 1) + x % 1024
    cell a < 2048 ∧ p.read c a = Memory.byte .vram p.vram (cell a) ∧
      (p.write c a v).read c b = if cell a = cell b then v else p.read c b

/-- CPU writes to the PPU registers: the latch, PPUCTRL with its nametable bits and the NMI-enable edge, PPUMASK,
OAMADDR, OAMDATA, the two writes of PPUSCROLL and of PPUADDR, PPUDATA; and the byte stored (61_ppu.md R460 to R466).
Own to the spec, by its marks: R460 (D30), R462 (D31), R464 (D31), R466 (D27). -/
def Obligations.PpuRegisterWrites : Prop :=
  ∀ (s : State) (a : Addr) (val : Byte), s.cfg.busMode = .console → 0x2000 ≤ a.toNat → a.toNat < 0x4000 →
    let t := busWrite a val s
    let p := s.ppu
    let q := t.ppu
    let r := a.toNat % 8
    let n := val.toNat
    q.latch = val ∧ t.regs = s.regs ∧ Stored a val s t ∧
    (r = 0 → q.ctrl = val ∧ q.t.toNat = p.t.toNat / 4096 * 4096 + n % 4 * 1024 + p.t.toNat % 1024 ∧
      t.nmiPending = (s.nmiPending || (decide (p.ctrl.toNat < 128) && decide (128 ≤ n) && p.vblank))) ∧
    (r ≠ 0 → q.ctrl = p.ctrl ∧ t.nmiPending = s.nmiPending) ∧
    (q.mask = if r = 1 then val else p.mask) ∧
    (q.oamaddr = if r = 3 then val else if r = 4 then p.oamaddr + 1 else p.oamaddr) ∧
    (r = 5 → q.v = p.v ∧ q.w = !p.w ∧
      (p.w = false → q.t.toNat = p.t.toNat / 32 * 32 + n / 8 ∧ q.x.toNat = n % 8) ∧
      (p.w = true → q.t.toNat = n % 8 * 4096 + p.t.toNat / 1024 % 4 * 1024 + n / 8 * 32 + p.t.toNat % 32 ∧
        q.x = p.x)) ∧
    (r = 6 → q.w = !p.w ∧ q.x = p.x ∧
      (p.w = false → q.t.toNat = n % 64 * 256 + p.t.toNat % 256 ∧ q.v = p.v) ∧
      (p.w = true → q.t.toNat = p.t.toNat / 256 * 256 + n ∧ q.v = q.t)) ∧
    (r = 7 → q.v.toNat = (p.v.toNat + (if p.ctrl.toNat / 4 % 2 = 1 then 32 else 1)) % 32768) ∧
    (r ∉ [5, 6] → q.w = p.w ∧ q.x = p.x) ∧ (r ∉ [0, 5, 6] → q.t = p.t) ∧ (r ∉ [6, 7] → q.v = p.v)

/-- The scroll increments and copies of v, field by field: coarse X wraps at 31 and toggles bit 10, fine Y carries
into coarse Y, which wraps at 29 and toggles bit 11, or at 31 and toggles nothing (61_ppu.md R485, R486). Own to the
spec, by its marks: R485 (D29). -/
def Obligations.ScrollIncrements : Prop :=
  ∀ v t : BitVec 15,
    ((incX v).toNat % 32 = (v.toNat % 32 + 1) % 32 ∧ (incX v).toNat / 32 % 32 = v.toNat / 32 % 32 ∧
      (incX v).toNat / 1024 % 2 = (v.toNat / 1024 + (if v.toNat % 32 = 31 then 1 else 0)) % 2 ∧
      (incX v).toNat / 2048 = v.toNat / 2048) ∧
    ((incY v).toNat / 4096 = (v.toNat / 4096 + 1) % 8 ∧ (incY v).toNat % 32 = v.toNat % 32 ∧
      (incY v).toNat / 1024 % 2 = v.toNat / 1024 % 2 ∧
      (incY v).toNat / 32 % 32 = (if v.toNat / 4096 < 7 then v.toNat / 32 % 32
        else if v.toNat / 32 % 32 = 29 then 0 else (v.toNat / 32 % 32 + 1) % 32) ∧
      (incY v).toNat / 2048 % 2 =
        (v.toNat / 2048 + (if v.toNat / 4096 = 7 ∧ v.toNat / 32 % 32 = 29 then 1 else 0)) % 2) ∧
    ((copyX v t).toNat % 32 = t.toNat % 32 ∧ (copyX v t).toNat / 1024 % 2 = t.toNat / 1024 % 2 ∧
      (copyX v t).toNat / 32 % 32 = v.toNat / 32 % 32 ∧ (copyX v t).toNat / 2048 = v.toNat / 2048) ∧
    ((copyY v t).toNat % 32 = v.toNat % 32 ∧ (copyY v t).toNat / 1024 % 2 = v.toNat / 1024 % 2 ∧
      (copyY v t).toNat / 32 % 32 = t.toNat / 32 % 32 ∧ (copyY v t).toNat / 2048 = t.toNat / 2048)

/-- The background pipeline in one dot, on scanlines 0 to 239 and 261 with rendering enabled, and nothing elsewhere:
the four shift registers shift and reload from the latches; the latches fetch the tile's number, its two palette bits
and its two pattern bytes at v; and v moves, at the dots of the schedule (61_ppu.md R480 to R486). Own to the spec, by
its marks: R480 (D29), R485 (D29). -/
def Obligations.BackgroundPipeline : Prop :=
  ∀ s : State,
    let p := s.ppu
    let t := (ppuDot s).ppu
    let v := p.v.toNat
    let patterns := p.ctrl.toNat / 16 % 2 * 4096 + p.bgNt.toNat * 16 + v / 4096
    let unused := pipelineDot p && (decide (p.dot = 338) || decide (p.dot = 340))
    t.shPatLo.toNat = registerAfter p p.shPatLo p.bgLo.toNat ∧
    t.shPatHi.toNat = registerAfter p p.shPatHi p.bgHi.toNat ∧
    t.shAtLo.toNat = registerAfter p p.shAtLo (255 * (p.bgAt.toNat % 2)) ∧
    t.shAtHi.toNat = registerAfter p p.shAtHi (255 * (p.bgAt.toNat / 2)) ∧
    t.bgNt = (if tilePhase p = some 0 ∨ unused = true then p.read s.cart (8192 + v % 4096) else p.bgNt) ∧
    t.bgAt.toNat = (if tilePhase p = some 2 then
      (p.read s.cart (0x23C0 + v / 1024 % 4 * 1024 + v / 128 % 8 * 8 + v / 4 % 8)).toNat
        / 2 ^ (v / 64 % 2 * 4 + v / 2 % 2 * 2) % 4
      else p.bgAt.toNat) ∧
    t.bgLo = (if tilePhase p = some 4 then p.read s.cart patterns else p.bgLo) ∧
    t.bgHi = (if tilePhase p = some 6 then p.read s.cart (patterns + 8) else p.bgHi) ∧
    t.v = scrollAfter p ∧ t.t = p.t ∧ t.x = p.x

/-- Vblank: at (241, 1) the flag and the driver's signal are set and an NMI is requested if enabled; at (261, 1) the
three status flags are cleared; no other dot changes vblank or the signal, or requests an NMI (61_ppu.md R487). Own to
the spec, by its marks: R487 (D30). -/
def Obligations.VblankFlags : Prop :=
  ∀ s : State,
    let t := ppuDot s
    if s.ppu.scanline = 241 ∧ s.ppu.dot = 1 then
      t.ppu.vblank = true ∧ t.ppu.vblEvent = true ∧ t.nmiPending = (s.nmiPending || decide (128 ≤ s.ppu.ctrl.toNat))
    else t.nmiPending = s.nmiPending ∧ t.ppu.vblEvent = s.ppu.vblEvent ∧
      if s.ppu.scanline = 261 ∧ s.ppu.dot = 1 then
        t.ppu.vblank = false ∧ t.ppu.sprite0Hit = false ∧ t.ppu.spriteOverflow = false
      else t.ppu.vblank = s.ppu.vblank

/-- The dot counters: they wrap at dot 340 and scanline 261, with dot 340 of the pre-render line skipped on an odd
frame with rendering enabled; so a frame is 89342 dots, or 89341 on such a frame (61_ppu.md R471). Own to the spec, by
its marks: R471 (D28). -/
def Obligations.DotCounter : Prop :=
  (∀ s : State, s.ppu.dot ≤ 340 → s.ppu.scanline ≤ 261 →
    let t := (ppuDot s).ppu
    if s.ppu.scanline = 261 ∧ s.ppu.dot = 339 ∧ s.ppu.odd = true ∧ s.ppu.rendering = true then
      t.dot = 0 ∧ t.scanline = 0 ∧ t.odd = false
    else if s.ppu.dot < 340 then t.dot = s.ppu.dot + 1 ∧ t.scanline = s.ppu.scanline ∧ t.odd = s.ppu.odd
    else if s.ppu.scanline < 261 then t.dot = 0 ∧ t.scanline = s.ppu.scanline + 1 ∧ t.odd = s.ppu.odd
    else t.dot = 0 ∧ t.scanline = 0 ∧ t.odd = !s.ppu.odd) ∧
  ∀ s : State, s.ppu.dot = 0 → s.ppu.scanline = 0 →
    let t := (ppuDots (if s.ppu.odd = true ∧ s.ppu.rendering = true then 89341 else 89342) s).ppu
    t.dot = 0 ∧ t.scanline = 0 ∧ t.odd = !s.ppu.odd

/-- Sprite evaluation at dot 257 of a visible line: the list is the first eight OAM sprites in range, in OAM order,
with their four bytes and their pattern bytes; sprite 0's flag says that it is among them; OAMADDR is cleared. With
eight found, the overflow flag is set if the loop with its moving byte finds one more in range; else the flag is left
(61_ppu.md R500, R501, R504). Own to the spec, by its marks: R500 (D30), R501 (D30), R504 (D30). -/
def Obligations.SpriteEvaluation : Prop :=
  ∀ s : State, s.cfg.sprites = .full → s.ppu.rendering = true → s.ppu.scanline < 240 → s.ppu.dot = 257 →
    let t := ppuDot s
    let found := (List.range 64).filter (spriteSelected s)
    t.ppu.spr.map (fun e => [e.y, e.tile, e.attr, e.xpos]) =
        (found.take 8).map (fun n => (List.range 4).map fun j => cellByte s .oam (4 * n + j)) ∧
      t.ppu.spr.map (fun e => (e.lo, e.hi)) = (found.take 8).map (spritePattern s) ∧
      t.ppu.spr0OnLine = spriteSelected s 0 ∧ t.ppu.oamaddr = 0 ∧
      t.ppu.spriteOverflow = (s.ppu.spriteOverflow || match found[7]? with
        | some n => overflowSeen s (n + 1)
        | none => false)

/-- A visible dot draws exactly its pixel, in the colour of the palette entry that the priority rule selects from the
background pixel, taken after the dot's shift, and the sprite pixel: the backdrop if the mask hides the background;
with bits 5:4 only under greyscale. It sets the sprite-zero flag where the two pixels of sprite 0 and the background
meet, and never clears it (61_ppu.md R488, R502, R503, R505, R510; 20_memory.md R172). The model's own: log entry 14.
-/
def Obligations.PixelOutput : Prop :=
  ∀ s : State, s.ppu.scanline < 240 → 1 ≤ s.ppu.dot → s.ppu.dot ≤ 256 →
    let t := ppuDot s
    let p := { s.ppu with
      shPatLo := t.ppu.shPatLo, shPatHi := t.ppu.shPatHi, shAtLo := t.ppu.shAtLo, shAtHi := t.ppu.shAtHi }
    let x := s.ppu.dot - 1
    let entry := cellByte s .palette (pixelEntry s.cfg p x)
    (∀ line col, t.ppu.frame.pixel line col = if line = s.ppu.scanline ∧ col = x then
        (if s.ppu.mask.toNat % 2 = 1 then entry &&& 0x30 else entry).setWidth 6
      else s.ppu.frame.pixel line col) ∧
    t.ppu.sprite0Hit = (s.ppu.sprite0Hit || zeroHit s.cfg p x)

/-! ### The APU -/

/-- CPU writes to the APU registers: each of 0x4000 to 0x4013 sets the fields of its channel from the byte's bits and
changes nothing else; 0x4014 records the page of an OAM DMA; 0x4015 enables or mutes the four channels, starts or
stops the DMC, and clears the DMC interrupt (62_apu.md R540 to R548, R561; 20_memory.md R142; 61_ppu.md R520). Own to
the spec, by its marks: R520 (D19), R548 (D47), R561 (D47). -/
def Obligations.ApuRegisterWrites : Prop :=
  ∀ (s : State) (a : Addr) (v : Byte), s.cfg.busMode = .console →
    let t := busWrite a v s
    let n := a.toNat
    let apu := s.apu
    (0x4000 ≤ n ∧ n ≤ 0x4003 → t = { s with apu := { apu with pulse1 := pulseWritten (n % 4) v apu.pulse1 } }) ∧
    (0x4004 ≤ n ∧ n ≤ 0x4007 → t = { s with apu := { apu with pulse2 := pulseWritten (n % 4) v apu.pulse2 } }) ∧
    (0x4008 ≤ n ∧ n ≤ 0x400B → t = { s with apu := { apu with triangle := triangleWritten (n % 4) v apu.triangle } }) ∧
    (0x400C ≤ n ∧ n ≤ 0x400F → t = { s with apu := { apu with noise := noiseWritten (n % 4) v apu.noise } }) ∧
    (0x4010 ≤ n ∧ n ≤ 0x4013 → t = { s with apu := { apu with dmc := dmcWritten (n % 4) v apu.dmc } }) ∧
    (n = 0x4014 → t = { s with oamDmaPage := some v }) ∧
    (n = 0x4015 → t = { s with apu := statusWritten v apu })

/-- The frame sequencer: a 0x4017 write sets the inhibit bit at once and the mode 3 or 4 cycles later, when the
counter restarts; else the counter counts ticks up to the mode's last offset, where the 4-step mode raises the frame
interrupt unless inhibited. The DMC address is in the range the invariant keeps (62_apu.md R549 to R553). Own to the
spec, by its marks: R549 (D22, D23), R550 (D22, D48), R551 (D22), R552 (D22). -/
def Obligations.FrameSequencer : Prop :=
  (∀ (s : State) (v : Byte), s.cfg.busMode = .console →
    let t := busWrite 0x4017#16 v s
    t.apu.irqInhibit = decide (64 ≤ v.toNat % 128) ∧
      t.apu.frameIrq = (s.apu.frameIrq && decide (v.toNat % 128 < 64)) ∧ t.apu.fc = s.apu.fc ∧
      t.apu.fcMode = s.apu.fcMode ∧ t.apu.fcPending = some (v, if s.cycles % 2 = 0 then 3 else 4)) ∧
  ∀ s : State, s.cfg.busMode = .console → 0x8000 ≤ s.apu.dmc.curAddr.toNat →
    let t := (apuTick s).apu
    let last := if s.apu.fcMode then s.cfg.fcOffsets5.o4 else s.cfg.fcOffsets4.o4
    (∀ v, s.apu.fcPending = some (v, 0) → t.fcPending = none ∧ t.fc = 0 ∧ t.fcMode = decide (128 ≤ v.toNat) ∧
      t.frameIrq = s.apu.frameIrq) ∧
    ((∀ v, s.apu.fcPending ≠ some (v, 0)) →
      (t.fcPending = s.apu.fcPending.map fun q => (q.1, q.2 - 1)) ∧ t.fcMode = s.apu.fcMode ∧
      t.fc = (if s.apu.fc + 1 = last then 0 else s.apu.fc + 1) ∧
      t.frameIrq = (s.apu.frameIrq ||
        (decide (s.apu.fc + 1 = last) && !s.apu.fcMode && !s.apu.irqInhibit)))

/-- The length counters of the four channels in one APU tick of console mode: the half-frame decrement in the ticks
the frame sequencer says, the pending load that a decrement in the same tick drops, and the pending halt that takes
effect after it (62_apu.md R550 to R552, R555, R563 to R565). Own to the spec, by its marks: R550 (D22, D48), R551
(D22), R552 (D22), R564 (D47), R565 (D47). -/
def Obligations.LengthCounterTick : Prop :=
  ∀ s : State, s.cfg.busMode = .console → s.cfg.wellFormed = true →
    Length.Ticked (halfClocked s) s.apu.pulse1.lc (apuTick s).apu.pulse1.lc ∧
    Length.Ticked (halfClocked s) s.apu.pulse2.lc (apuTick s).apu.pulse2.lc ∧
    Length.Ticked (halfClocked s) s.apu.triangle.lc (apuTick s).apu.triangle.lc ∧
    Length.Ticked (halfClocked s) s.apu.noise.lc (apuTick s).apu.noise.lc

/-- The envelopes, the sweeps and the linear counter in one APU tick of console mode: each is clocked in the ticks the
frame sequencer says and only there, with the halt flags from before the tick; the programmed settings are kept
(62_apu.md R550 to R552, R554, R555, R571 to R573, R581). Own to the spec, by its marks: R550 (D22, D48), R551 (D22),
R552 (D22). -/
def Obligations.EnvelopeSweepLinear : Prop :=
  ∀ s : State, s.cfg.busMode = .console → s.cfg.wellFormed = true →
    let a := s.apu
    let t := (apuTick s).apu
    let envelope := fun (l : Length) (e : Envelope) => if quarterClocked s then envelopeClocked l.halt e else e
    let sweep := fun (one : Bool) (p : Pulse) => if halfClocked s then sweepClocked one p else p
    let linear := if quarterClocked s then linearClocked a.triangle else a.triangle
    t.pulse1.env = envelope a.pulse1.lc a.pulse1.env ∧ t.pulse2.env = envelope a.pulse2.lc a.pulse2.env ∧
    t.noise.env = envelope a.noise.lc a.noise.env ∧
    (t.pulse1.period, t.pulse1.swDiv, t.pulse1.swReload) =
      ((sweep true a.pulse1).period, (sweep true a.pulse1).swDiv, (sweep true a.pulse1).swReload) ∧
    (t.pulse2.period, t.pulse2.swDiv, t.pulse2.swReload) =
      ((sweep false a.pulse2).period, (sweep false a.pulse2).swDiv, (sweep false a.pulse2).swReload) ∧
    (t.triangle.lin, t.triangle.linReload) = (linear.lin, linear.linReload) ∧ t.settings = a.settings

/-- The timers and the sample in one APU tick of console mode: the pulse timers and duty steps in every other tick,
the triangle's step while its two counters run, the noise register with its two taps, the DMC's output unit, and the
mixer's sample of the outputs at the tick's end (62_apu.md R550, R570, R572, R574, R580, R582, R585, R586, R590, R591,
R600, R605, R606). Own to the spec, by its marks: R550 (D22, D48), R570 (D48), R585 (D50), R591 (D20), R605 (D48),
R606 (D43). -/
def Obligations.TimersAndSample : Prop :=
  ∀ s : State, s.cfg.busMode = .console → s.cfg.wellFormed = true →
    let a := s.apu
    let t := (apuTick s).apu
    let pulse := fun (p q : Pulse) =>
      q.timer.toNat = (if a.phase then p.timer.toNat else timerTicked p.timer.toNat q.period.toNat) ∧
        q.seq.toNat = (if a.phase = false ∧ p.timer = 0 then (p.seq.toNat + 1) % 8 else p.seq.toNat)
    let playing := a.triangle.lc.len.toNat - (halfClocked s && !a.triangle.lc.halt).toNat ≠ 0 ∧ t.triangle.lin ≠ 0
    let out := decide (a.dmc.timer = 0)
    let byteDone := out && decide (a.dmc.bitsLeft = 1)
    t.phase = !a.phase ∧ pulse a.pulse1 t.pulse1 ∧ pulse a.pulse2 t.pulse2 ∧
    t.triangle.timer.toNat = timerTicked a.triangle.timer.toNat a.triangle.period.toNat ∧
    (a.triangle.timer = 0 → playing → t.triangle.seq.toNat = (a.triangle.seq.toNat + 1) % 32) ∧
    (¬(a.triangle.timer = 0 ∧ playing) → t.triangle.seq = a.triangle.seq) ∧
    (∀ n, (noisePeriods s.cfg.region)[a.noise.periodIndex.toNat]? = some n →
      t.noise.timer.toNat = timerTicked a.noise.timer.toNat (n - 1)) ∧
    t.noise.lfsr.toNat = (if a.noise.timer = 0 then
      a.noise.lfsr.toNat / 2 +
        (a.noise.lfsr.toNat + a.noise.lfsr.toNat / (if a.noise.mode then 64 else 2)) % 2 * 16384
      else a.noise.lfsr.toNat) ∧
    (∀ n, (dmcRates s.cfg.region)[a.dmc.rateIndex.toNat]? = some n →
      t.dmc.timer.toNat = timerTicked a.dmc.timer.toNat (n - 1)) ∧
    t.dmc.level.toNat = (if out then levelAfterBit a.dmc else a.dmc.level.toNat) ∧
    t.dmc.bitsLeft = (if byteDone then 8 else if out then a.dmc.bitsLeft - 1 else a.dmc.bitsLeft) ∧
    t.dmc.silence = (if byteDone then a.dmc.bufferEmpty else a.dmc.silence) ∧
    t.dmc.shift.toNat = (if byteDone = true ∧ a.dmc.bufferEmpty = false then a.dmc.buffer.toNat
      else if out then a.dmc.shift.toNat / 2 else a.dmc.shift.toNat) ∧
    t.dmc.bufferEmpty = (decide (a.dmc.bytesLeft = 0) && (a.dmc.bufferEmpty || byteDone)) ∧
    t.sample = mixedSample s.cfg.mixer t ∧
    (s.cfg.mixer = Params.default.mixer → t.sample =
      (752 : Rat) / 100000 * (pulseOutput true t.pulse1 + pulseOutput false t.pulse2 : Nat) +
        (851 : Rat) / 100000 * (triangleOutput t.triangle : Nat) + (494 : Rat) / 100000 * (noiseOutput t.noise : Nat) +
        (335 : Rat) / 100000 * (t.dmc.level.toNat : Nat))

/-- `DmcRestart` starts the sample at 0xC000 + 64 times the address register, in 0xC000 to 0xFFC0, with 16 times the
length register plus 1 bytes, 1 to 4081 (62_apu.md R593). -/
def Obligations.DmcRestart : Prop :=
  ∀ d : Dmc, d.restart.curAddr.toNat = 0xC000 + 64 * d.sampleAddrReg.toNat ∧
    d.restart.bytesLeft.toNat = 16 * d.sampleLenReg.toNat + 1 ∧ 0xC000 ≤ d.restart.curAddr.toNat ∧
    d.restart.curAddr.toNat ≤ 0xFFC0 ∧ 1 ≤ d.restart.bytesLeft.toNat ∧ d.restart.bytesLeft.toNat ≤ 4081

/-- The DMC reader fetches one byte when the buffer is empty and bytes are left, charges DMC_STALL_CYCLES, advances or
restarts or raises its interrupt, and does nothing otherwise. The stall is served before the next CPU cycle, turn by
turn until none is owed, which comes where the sample does not loop or a fetch costs fewer than 400 cycles; else it is
marked as endless (62_apu.md R591, R592; 20_memory.md R133; log entry 6). Own to the spec, by its marks: R591 (D20).
The model's own: log entry 6. -/
def Obligations.DmcFetch : Prop :=
  (∀ s : State, s.apu.dmc.bufferEmpty = true → 0 < s.apu.dmc.bytesLeft.toNat →
    let t := dmcReader s
    let d := s.apu.dmc
    let e := t.apu.dmc
    t.stall = s.stall + s.cfg.dmcStallCycles ∧ e.buffer = (busRead d.curAddr s).1 ∧ e.bufferEmpty = false ∧
      (1 < d.bytesLeft.toNat → e.bytesLeft.toNat = d.bytesLeft.toNat - 1 ∧ e.dmcIrq = d.dmcIrq ∧
        e.curAddr.toNat = (if d.curAddr.toNat = 0xFFFF then 0x8000 else d.curAddr.toNat + 1)) ∧
      (d.bytesLeft.toNat = 1 → d.loop = true → e.dmcIrq = d.dmcIrq ∧
        e.curAddr.toNat = 0xC000 + 64 * d.sampleAddrReg.toNat ∧ e.bytesLeft.toNat = 16 * d.sampleLenReg.toNat + 1) ∧
      (d.bytesLeft.toNat = 1 → d.loop = false → e.bytesLeft.toNat = 0 ∧ e.dmcIrq = (d.dmcIrq || d.irqEn))) ∧
  (∀ s : State, s.apu.dmc.bufferEmpty = false ∨ s.apu.dmc.bytesLeft = 0 → dmcReader s = s) ∧
  (∀ s : State, ∃ n,
    let u := drainTurns n s
    drainStall s = { u with hung := (drainStall s).hung } ∧ (∀ m, m < n → (drainTurns m s).stall ≠ 0) ∧
      (u.stall = 0 ∧ (drainStall s).hung = s.hung ∨ u.stall ≠ 0 ∧ (drainStall s).hung = true) ∧
      (s.apu.dmc.loop = false ∨ s.cfg.dmcStallCycles < 400 → u.stall = 0) ∧
      tick s = endCycle (drainStall s)) ∧
  ∀ s : State, s.apu.dmc.bytesLeft = 0 → (tick s).stall = 0 ∧ (tick s).cycles = s.cycles + s.stall + 1 ∧
    (tick s).delta = s.delta + s.stall + 1

/-! ### The mapper and the ports -/

/-- The mapper registers. A write at 0x8000 or above changes the scheme's registers alone, by the scheme's rule; a
read there gives the byte of the PRG page the scheme windows and changes nothing; a pattern-table read gives the byte
of the CHR bank; the mirroring is the scheme's. In the MMC1 port five serial writes with bit 7 clear load the register
that the fifth write's address selects with the five bits, in the parameter's order, and leave the other three; a
write with bit 7 set empties it and selects PRG mode 3 (63_mapper_and_ports.md R621 to R623, R625 to R628, R630 to
R634). Own to the spec, by its marks: R621 (D35), R623 (D36), R626 (D25), R627 (D35), R628 (D36, D37), R633 (D37). -/
def Obligations.MapperRegisters : Prop :=
  (∀ (s : State) (a : Addr) (v : Byte), s.cfg.busMode = .console → 0x8000 ≤ a.toNat →
    busWrite a v s =
      { s with cart := { s.cart with mapper := mapperWritten s.cfg.mmc1BitOrder a v s.cart.mapper } } ∧
    busRead a s =
      (cellByte s .prg (0x4000 * windowPage s.cart (decide (0xC000 ≤ a.toNat)) + a.toNat % 0x4000), s)) ∧
  (∀ (s : State) (a : Nat), a < 0x2000 →
    let bank := patternBank s.cart (decide (0x1000 ≤ a))
    s.ppu.read s.cart a =
      (if s.cart.nChr = 0 then cellByte s .chrRam (0x1000 * (bank % 2) + a % 0x1000)
      else cellByte s .chr (match s.cart.mapper with
        | .shiftRegister _ => 0x2000 * (bank / 2 % s.cart.nChr) + 0x1000 * (bank % 2) + a % 0x1000
        | .fixed => a
        | .lowerBankSelect _ => a
        | .upperBankSelect _ => a
        | .coarseBankSelect _ _ => a)) ∧
    s.cart.effectiveMirroring = mirroringInForce s.cart) ∧
  ∀ (order : BitOrder) (r : Mmc1) (a0 a1 a2 a3 a4 : Addr) (b0 b1 b2 b3 b4 : Byte), r.count = 0 →
    b0.toNat < 128 → b1.toNat < 128 → b2.toNat < 128 → b3.toNat < 128 → b4.toNat < 128 →
    let q := (((((r.write order a0 b0).write order a1 b1).write order a2 b2).write order a3 b3).write order a4 b4)
    let word := BitVec.ofNat 5 (serialWord order b0 b1 b2 b3 b4)
    q = (match a4.toNat / 8192 % 4 with
      | 0 => { r with control := word, shift := 0, count := 0 }
      | 1 => { r with chr0 := word, shift := 0, count := 0 }
      | 2 => { r with chr1 := word, shift := 0, count := 0 }
      | _ => { r with prgb := word, shift := 0, count := 0 }) ∧
    ∀ (a : Addr) (b : Byte), 128 ≤ b.toNat →
      (r.write order a b).shift = 0 ∧ (r.write order a b).count = 0 ∧ (r.write order a b).prgMode = 3 ∧
      (r.write order a b).chr0 = r.chr0 ∧ (r.write order a b).chr1 = r.chr1 ∧ (r.write order a b).prgb = r.prgb

/-- The controller ports: after a strobe write of 1 and then 0 with the host's buttons held, the n-th read of a port
gives button n of its controller in bit 0 and 0 in bits 4:1, and 1 in bit 0 after the eighth; reads of one port do not
shift the other (63_mapper_and_ports.md R640 to R643). Own to the spec, by its marks: R640 (D34), R642 (D34), R643
(derived). The model's own: log entry 4. -/
def Obligations.ControllerShift : Prop :=
  ∀ (s : State) (b : Byte × Byte) (on off : Byte) (n : Nat) (second : Bool), s.cfg.busMode = .console →
    s.pads.host = some b → on.toNat % 2 = 1 → off.toNat % 2 = 0 →
    let t := busWrite 0x4016#16 off (busWrite 0x4016#16 on s)
    let r := busRead (if second then 0x4017#16 else 0x4016#16) (padReads second n t)
    let buttons := if second then b.2 else b.1
    r.1.toNat % 32 = (if n < 8 then buttons.toNat / 2 ^ n % 2 else 1) ∧
      r.2.pads.shift (!second) = (if second then b.1 else b.2)
end

