-- ==== Sys2Proof/Laws/Apu.lean ====
section
/-!
SUPPORT. A tick of the APU changes none of the settings that register writes program.
-/

namespace Sys2Proof.Machine

theorem Length.clock_enabled (l : Length) : l.clock.1.enabled = l.enabled := by
  unfold Length.clock; split <;> rfl

theorem Pulse.settings_clockTimer (p : Pulse) : p.clockTimer.settings = p.settings := by
  unfold Pulse.clockTimer; split <;> rfl

theorem Pulse.settings_clockSweep (one : Bool) (p : Pulse) : (p.clockSweep one).settings = p.settings := rfl

theorem Envelope.clock_constant (h : Bool) (e : Envelope) : (e.clock h).constant = e.constant := by
  unfold Envelope.clock; split
  · rfl
  · split <;> rfl

theorem Envelope.clock_vol (h : Bool) (e : Envelope) : (e.clock h).vol = e.vol := by
  unfold Envelope.clock; split
  · rfl
  · split <;> rfl

theorem Triangle.clockTimer_fields (t : Triangle) :
    t.clockTimer.control = t.control ∧ t.clockTimer.linReloadVal = t.linReloadVal ∧ t.clockTimer.period = t.period
      ∧ t.clockTimer.lc = t.lc := by
  unfold Triangle.clockTimer; split <;> exact ⟨rfl, rfl, rfl, rfl⟩

theorem Noise.clockTimer_fields (r : Region) (n : Noise) :
    (n.clockTimer r).mode = n.mode ∧ (n.clockTimer r).periodIndex = n.periodIndex ∧ (n.clockTimer r).env = n.env
      ∧ (n.clockTimer r).lc = n.lc := by
  unfold Noise.clockTimer; split <;> exact ⟨rfl, rfl, rfl, rfl⟩

/-- The settings of the DMC and the reader's fields that the timer does not touch. -/
theorem Dmc.clockTimer_fields (r : Region) (d : Dmc) :
    (d.clockTimer r).irqEn = d.irqEn ∧ (d.clockTimer r).loop = d.loop ∧ (d.clockTimer r).rateIndex = d.rateIndex
      ∧ (d.clockTimer r).sampleAddrReg = d.sampleAddrReg ∧ (d.clockTimer r).sampleLenReg = d.sampleLenReg
      ∧ (d.clockTimer r).curAddr = d.curAddr ∧ (d.clockTimer r).bytesLeft = d.bytesLeft
      ∧ (d.clockTimer r).dmcIrq = d.dmcIrq := by
  unfold Dmc.clockTimer
  split
  · simp only; split
    · split <;> exact ⟨rfl, rfl, rfl, rfl, rfl, rfl, rfl, rfl⟩
    · exact ⟨rfl, rfl, rfl, rfl, rfl, rfl, rfl, rfl⟩
  · exact ⟨rfl, rfl, rfl, rfl, rfl, rfl, rfl, rfl⟩

theorem Dmc.take_fields (b : Byte) (d : Dmc) :
    (d.take b).irqEn = d.irqEn ∧ (d.take b).loop = d.loop ∧ (d.take b).rateIndex = d.rateIndex
      ∧ (d.take b).sampleAddrReg = d.sampleAddrReg ∧ (d.take b).sampleLenReg = d.sampleLenReg := by
  simp only [Dmc.take, Dmc.sampleEnd, Dmc.restart]
  (repeat' split) <;> exact ⟨rfl, rfl, rfl, rfl, rfl⟩

theorem Apu.settings_quarterClock (a : Apu) : a.quarterClock.settings = a.settings := by
  simp [Apu.quarterClock, Apu.settings, Pulse.settings, Triangle.clockLinear, Envelope.clock_constant,
    Envelope.clock_vol]

theorem Apu.settings_halfClock (a : Apu) : a.halfClock.settings = a.settings := by
  simp [Apu.halfClock, Apu.settings, Pulse.settings, Pulse.clockSweep, Length.clock_enabled]

theorem Apu.settings_clockEvent (a : Apu) (e : SeqEvent) : (a.clockEvent e).1.settings = a.settings := by
  cases e
  · rfl
  · exact a.settings_quarterClock
  · exact (Apu.settings_halfClock _).trans a.settings_quarterClock

theorem Apu.settings_frameStep (cfg : Params) (a : Apu) : (a.frameStep cfg).1.settings = a.settings := by
  simp only [Apu.frameStep]
  split
  · exact (Apu.settings_clockEvent _ _)
  · exact (Apu.settings_clockEvent _ _)

theorem Apu.settings_sequencer (cfg : Params) (a : Apu) : (a.sequencer cfg).1.settings = a.settings := by
  unfold Apu.sequencer
  split
  · exact Apu.settings_frameStep cfg _
  · exact Apu.settings_clockEvent _ _
  · exact Apu.settings_frameStep cfg _

theorem Apu.settings_timers (r : Region) (a : Apu) : (a.timers r).settings = a.settings := by
  obtain ⟨t1, t2, t3, t4⟩ := a.triangle.clockTimer_fields
  obtain ⟨n1, n2, n3, n4⟩ := Noise.clockTimer_fields r a.noise
  obtain ⟨d1, d2, d3, d4, d5, -, -, -⟩ := Dmc.clockTimer_fields r a.dmc
  have p (q : Pulse) : (if a.phase then q.clockTimer else q).settings = q.settings := by
    split
    · exact q.settings_clockTimer
    · rfl
  simp [Apu.timers, Apu.settings, p, t1, t2, t3, t4, n1, n2, n3, n4, d1, d2, d3, d4, d5]

theorem Apu.settings_tickHead (cfg : Params) (a : Apu) : (a.tickHead cfg).1.settings = a.settings :=
  (Apu.settings_timers _ _).trans (Apu.settings_sequencer cfg _)

theorem Apu.settings_tickTail (cfg : Params) (d : Decremented) (a : Apu) :
    (a.tickTail cfg d).settings = a.settings := rfl

theorem Apu.settings_take (b : Byte) (a : Apu) : { a with dmc := a.dmc.take b }.settings = a.settings := by
  obtain ⟨d1, d2, d3, d4, d5⟩ := Dmc.take_fields b a.dmc
  simp [Apu.settings, d1, d2, d3, d4, d5]

end Sys2Proof.Machine
end

