-- ==== Sys2Proof/Laws/Memory.lean ====
section
/-!
SUPPORT. The laws of memories: a read after a write, and that a write keeps the canonical form.
-/

namespace Sys2Proof.Machine

variable {α : Type}

theorem sortedGet_sortedPut (l : List (Nat × α)) (a b : Nat) (v : α) :
    sortedGet (sortedPut l a v) b = if b = a then some v else sortedGet l b := by
  induction l with
  | nil => simp only [sortedPut, sortedGet]; (repeat' split) <;> first | rfl | omega
  | cons p l ih =>
    obtain ⟨k, w⟩ := p
    simp only [sortedPut]
    split
    · simp only [sortedGet]; (repeat' split) <;> first | rfl | omega
    · split
      · subst k; simp only [sortedGet]; (repeat' split) <;> first | rfl | omega
      · simp only [sortedGet, ih]; (repeat' split) <;> first | rfl | omega

theorem risingAbove_sortedPut (l : List (Nat × α)) (a b : Nat) (v : α) (hb : b < a) (h : risingAbove b l = true) :
    risingAbove b (sortedPut l a v) = true := by
  induction l generalizing b with
  | nil => simpa [sortedPut, risingAbove] using hb
  | cons p l ih =>
    obtain ⟨k, w⟩ := p
    simp only [risingAbove, Bool.and_eq_true, decide_eq_true_eq] at h
    simp only [sortedPut]
    split
    · simp_all [risingAbove]
    · split
      · simp_all [risingAbove]
      · simp only [risingAbove, Bool.and_eq_true, decide_eq_true_eq]
        exact ⟨h.1, ih k (by omega) h.2⟩

theorem rising_sortedPut (l : List (Nat × α)) (a : Nat) (v : α) (h : rising l = true) :
    rising (sortedPut l a v) = true := by
  cases l with
  | nil => rfl
  | cons p l =>
    obtain ⟨k, w⟩ := p
    simp only [sortedPut]
    split
    · simp_all [rising, risingAbove]
    · split
      · simp_all [rising]
      · simp only [rising] at *
        exact risingAbove_sortedPut l a k v (by omega) h

theorem keysBelow_sortedPut (size : Nat) (l : List (Nat × α)) (a : Nat) (v : α) (ha : a < size)
    (h : keysBelow size l = true) : keysBelow size (sortedPut l a v) = true := by
  induction l with
  | nil => simpa [sortedPut, keysBelow] using ha
  | cons p l ih =>
    obtain ⟨k, w⟩ := p
    simp only [keysBelow, List.all_cons, Bool.and_eq_true, decide_eq_true_eq] at h ih
    simp only [sortedPut]
    split
    · simp only [keysBelow, List.all_cons, Bool.and_eq_true, decide_eq_true_eq]; exact ⟨ha, h.1, h.2⟩
    · split
      · simp only [keysBelow, List.all_cons, Bool.and_eq_true, decide_eq_true_eq]; exact ⟨ha, h.2⟩
      · simp only [keysBelow, List.all_cons, Bool.and_eq_true, decide_eq_true_eq]; exact ⟨h.1, ih h.2⟩

/-- A read after a write: the byte written at the cell, any other cell as before. -/
theorem Memory.read_write (m : Memory) (a b : Nat) (v : Byte) :
    (m.write a v).read b = if b = a then some v else m.read b :=
  sortedGet_sortedPut m a b v

/-- The same of the byte an access reads. -/
theorem Memory.byte_write (kind : MemKind) (m : Memory) (a b : Nat) (v : Byte) :
    Memory.byte kind (m.write a v) b = if b = a then v else Memory.byte kind m b := by
  by_cases h : b = a <;> simp [Memory.byte, Memory.read_write, h]

/-- A write inside the memory keeps its canonical form. -/
theorem Memory.wf_write (size : Nat) (m : Memory) (a : Nat) (v : Byte) (ha : a < size) (h : m.wf size = true) :
    (m.write a v).wf size = true := by
  simp only [Memory.wf, Bool.and_eq_true] at *
  exact ⟨rising_sortedPut m a v h.1, keysBelow_sortedPut size m a v ha h.2⟩

end Sys2Proof.Machine
end

