-- ==== Sys2Proof/Laws/Boot.lean ====
section
/-!
SUPPORT. The memories of the reset state and of a loaded cartridge are in canonical form.
-/

namespace Sys2Proof.Machine

/-- Every memory of the reset state lists nothing, so it is in canonical form. -/
theorem State.reset_memories (size : Nat) :
    Memory.wf size State.reset.ram = true ∧ Memory.wf size State.reset.exram = true
      ∧ Memory.wf size State.reset.sram = true ∧ Memory.wf size State.reset.flat = true
      ∧ Memory.wf size State.reset.cart.prg = true ∧ Memory.wf size State.reset.cart.chr = true
      ∧ Memory.wf size State.reset.cart.chrRam = true ∧ Memory.wf size State.reset.ppu.oam = true
      ∧ Memory.wf size State.reset.ppu.vram = true ∧ Memory.wf size State.reset.ppu.palette = true :=
  ⟨rfl, rfl, rfl, rfl, rfl, rfl, rfl, rfl, rfl, rfl⟩

/-- A list whose keys rise from above `b` and end below `m`, followed by one whose keys rise from `m` on. -/
theorem risingAbove_append {α : Type} (l r : List (Nat × α)) (b m : Nat) (hb : b < m) (hl : risingAbove b l = true)
    (hm : keysBelow m l = true) (hr : ∀ c, c < m → risingAbove c r = true) : risingAbove b (l ++ r) = true := by
  induction l generalizing b with
  | nil => exact hr b hb
  | cons p l ih =>
    obtain ⟨k, v⟩ := p
    simp only [keysBelow, List.all_cons, Bool.and_eq_true, decide_eq_true_eq] at hm
    simp only [risingAbove, List.cons_append, Bool.and_eq_true, decide_eq_true_eq] at hl ⊢
    exact ⟨hl.1, ih k hm.1 hl.2 hm.2⟩

theorem risingAbove_shift (base b : Nat) (p : Memory) (h : risingAbove b p = true) :
    risingAbove (base + b) (p.map fun c => (base + c.1, c.2)) = true := by
  induction p generalizing b with
  | nil => rfl
  | cons c p ih =>
    simp only [risingAbove, List.map_cons, Bool.and_eq_true, decide_eq_true_eq] at h ⊢
    exact ⟨by omega, ih c.1 h.2⟩

theorem rising_of_risingAbove {α : Type} {b : Nat} {l : List (Nat × α)} (h : risingAbove b l = true) :
    rising l = true := by
  cases l with
  | nil => rfl
  | cons p l =>
    simp only [risingAbove, Bool.and_eq_true] at h
    exact h.2

/-- The keys of a shifted page start at its base. -/
theorem risingAbove_page (base c : Nat) (p : Memory) (hc : c < base) (h : rising p = true) :
    risingAbove c (p.map fun q => (base + q.1, q.2)) = true := by
  cases p with
  | nil => rfl
  | cons q p =>
    simp only [List.map_cons, risingAbove, Bool.and_eq_true, decide_eq_true_eq]
    exact ⟨by omega, risingAbove_shift base q.1 p h⟩

theorem keysBelow_page (base size : Nat) (p : Memory) (h : keysBelow size p = true) :
    keysBelow (base + size) (p.map fun q => (base + q.1, q.2)) = true := by
  simp only [keysBelow, List.all_eq_true, decide_eq_true_eq, List.mem_map, forall_exists_index, and_imp] at h ⊢
  rintro _ x hx rfl
  have := h x hx
  dsimp only
  omega

/-- Joined pages rise above every key before the first page. -/
theorem risingAbove_joinPages (size : Nat) (hs : 0 < size) (ps : List Memory) (base c : Nat) (hc : c < base)
    (h : ps.all (Memory.wf size) = true) : risingAbove c (joinPages size base ps) = true := by
  induction ps generalizing base c with
  | nil => rfl
  | cons p ps ih =>
    simp only [List.all_cons, Memory.wf, Bool.and_eq_true] at h
    exact risingAbove_append _ _ c (base + size) (by omega) (risingAbove_page base c p hc h.1.1)
      (keysBelow_page base size p h.1.2) fun d hd => ih (base + size) d hd (by simpa only [Memory.wf] using h.2)

/-- Joined pages stay below their total size. -/
theorem keysBelow_joinPages (size : Nat) (ps : List Memory) (base : Nat) (h : ps.all (Memory.wf size) = true) :
    keysBelow (base + size * ps.length) (joinPages size base ps) = true := by
  induction ps generalizing base with
  | nil => rfl
  | cons p ps ih =>
    simp only [List.all_cons, Bool.and_eq_true] at h
    have hp := h.1
    simp only [Memory.wf, Bool.and_eq_true] at hp
    have e : base + size * (ps.length + 1) = base + size + size * ps.length := by rw [Nat.mul_succ]; omega
    have a := keysBelow_page base size p hp.2
    have b := ih (base + size) h.2
    simp only [keysBelow, joinPages, List.length_cons, List.all_append, Bool.and_eq_true, e] at a b ⊢
    refine ⟨?_, b⟩
    simp only [List.all_eq_true, decide_eq_true_eq] at a ⊢
    intro x hx
    have := a x hx
    omega

/-- The pages of a load make a memory in canonical form. -/
theorem Memory.wf_joinPages (size : Nat) (hs : 0 < size) (ps : List Memory) (h : ps.all (Memory.wf size) = true) :
    Memory.wf (size * ps.length) (joinPages size 0 ps) = true := by
  have k := keysBelow_joinPages size ps 0 h
  rw [Nat.zero_add] at k
  simp only [Memory.wf, k, Bool.and_true]
  cases ps with
  | nil => rfl
  | cons p ps =>
    simp only [List.all_cons, Memory.wf, Bool.and_eq_true] at h
    have tail (c : Nat) (hc : c < size) : risingAbove c (joinPages size size ps) = true :=
      risingAbove_joinPages size hs ps size c hc (by simpa only [Memory.wf] using h.2)
    have e : (p.map fun q => (q.1, q.2)) = p := by simp
    simp only [joinPages, Nat.zero_add, e]
    cases p with
    | nil =>
      cases ps with
      | nil => rfl
      | cons q ps => exact rising_of_risingAbove (tail 0 hs)
    | cons q p =>
      have hk := h.1.2
      simp only [keysBelow, List.all_cons, Bool.and_eq_true, decide_eq_true_eq] at hk
      exact risingAbove_append p _ q.1 size hk.1 h.1.1 hk.2 tail

end Sys2Proof.Machine
end

