-- ==== Sys2Proof/Laws/Drain.lean ====
section
/-!
SUPPORT. Where the loop of `DrainStall` ends: with a sample that does not loop, and with DMC_STALL_CYCLES below 400, the
fewest ticks between two fetches (log entry 6). Each ground is a measure that a turn of the loop lowers.
-/

namespace Sys2Proof.Machine

/-- The loop ends with nothing owed within `n` turns, if every turn keeps `P` and lowers a measure of at most `n`. -/
theorem drainLoop_ends (P : State → Prop) (measure : State → Nat)
    (turn : ∀ s, P s → s.stall ≠ 0 → P (drainTurn s) ∧ measure (drainTurn s) < measure s) (n : Nat) (s : State)
    (hp : P s) (hm : measure s ≤ n) (hz : ∀ t, P t → measure t = 0 → t.stall = 0) : (drainLoop n s).stall = 0 := by
  induction n generalizing s with
  | zero => exact hz s hp (by omega)
  | succ n ih =>
    unfold drainLoop
    split
    next h => exact h
    next h =>
      obtain ⟨hq, hl⟩ := turn s hp h
      exact ih _ hq (by omega)

/-! ### What a turn does to the stall and the DMC -/

theorem tickHead_dmc (cfg : Params) (a : Apu) : (a.tickHead cfg).1.dmc = a.dmc.clockTimer cfg.region := by
  have event (b : Apu) (e : SeqEvent) : (b.clockEvent e).1.dmc = b.dmc := by cases e <;> rfl
  have frame (b : Apu) : (b.frameStep cfg).1.dmc = b.dmc := by
    simp only [Apu.frameStep]
    split <;> exact event _ _
  simp only [Apu.tickHead, Apu.timers, Apu.sequencer]
  split
  · rw [frame]
  · rw [event]
  · rw [frame]

theorem busRead_dmc (addr : Addr) (s : State) :
    (busRead addr s).2.apu.dmc = s.apu.dmc ∧ (busRead addr s).2.stall = s.stall
      ∧ (busRead addr s).2.cfg = s.cfg := by
  simp only [busRead, consoleRead, padRead, latchButtons, ppuRegRead, apuStatusRead, drawOpenBus]
  (repeat' split) <;> exact ⟨rfl, rfl, rfl⟩

theorem ppuDots_keeps (n : Nat) (s : State) :
    (ppuDots n s).apu = s.apu ∧ (ppuDots n s).stall = s.stall ∧ (ppuDots n s).cfg = s.cfg := by
  induction n generalizing s with
  | zero => exact ⟨rfl, rfl, rfl⟩
  | succ n ih => exact ih (ppuDot s)

theorem advancePhase_keeps (s : State) :
    (advancePhase s).apu = s.apu ∧ (advancePhase s).stall = s.stall ∧ (advancePhase s).cfg = s.cfg := by
  unfold advancePhase; split <;> exact ⟨rfl, rfl, rfl⟩

/-- The DMC after a turn that reads the byte `b`, if it reads one. -/
def turnDmc (s : State) (b : Byte) : Dmc :=
  if (s.apu.dmc.clockTimer s.cfg.region).wantsByte then (s.apu.dmc.clockTimer s.cfg.region).take b
  else s.apu.dmc.clockTimer s.cfg.region

/-- What the reader does: nothing, or one byte taken and its stall. -/
theorem dmcReader_dmc (s : State) :
    (dmcReader s).cfg = s.cfg ∧ ∃ b,
      (dmcReader s).apu.dmc = (if s.apu.dmc.wantsByte then s.apu.dmc.take b else s.apu.dmc) ∧
      (dmcReader s).stall = s.stall + (if s.apu.dmc.wantsByte then s.cfg.dmcStallCycles else 0) := by
  cases h : s.apu.dmc.wantsByte
  · simp only [dmcReader, h]
    exact ⟨rfl, 0, rfl, rfl⟩
  · obtain ⟨k1, k2, k3⟩ := busRead_dmc s.apu.dmc.curAddr { s with stall := s.stall + s.cfg.dmcStallCycles }
    simp only [dmcReader, h, k1, k2, k3, if_true]
    exact ⟨trivial, _, rfl, trivial⟩

/-- What an APU tick does to the stall and the DMC. -/
theorem apuTick_dmc (s : State) : ∃ b, (apuTick s).apu.dmc = turnDmc s b ∧ (apuTick s).cfg = s.cfg ∧
    (apuTick s).stall = s.stall +
      (if (s.apu.dmc.clockTimer s.cfg.region).wantsByte then s.cfg.dmcStallCycles else 0) := by
  obtain ⟨h1, b, h2, h3⟩ := dmcReader_dmc { s with apu := (s.apu.tickHead s.cfg).1 }
  simp only [tickHead_dmc] at h2 h3
  exact ⟨b, h2, h1, h3⟩

/-- In console mode a turn takes one stall cycle off, clocks the DMC, and adds the stall of a fetch. -/
theorem drainTurn_console (s : State) (hc : s.cfg.busMode = .console) :
    ∃ b, (drainTurn s).apu.dmc = turnDmc s b ∧ (drainTurn s).cfg = s.cfg ∧
      (drainTurn s).stall = s.stall - 1 +
        (if (s.apu.dmc.clockTimer s.cfg.region).wantsByte then s.cfg.dmcStallCycles else 0) := by
  obtain ⟨p1, p2, p3⟩ := advancePhase_keeps { s with stall := s.stall - 1 }
  obtain ⟨q1, q2, q3⟩ := ppuDots_keeps (dotsThisCycle { s with stall := s.stall - 1 })
    (advancePhase { s with stall := s.stall - 1 })
  obtain ⟨b, h1, h2, h3⟩ := apuTick_dmc (ppuDots (dotsThisCycle { s with stall := s.stall - 1 })
    (advancePhase { s with stall := s.stall - 1 }))
  refine ⟨b, ?_, ?_, ?_⟩
  · simpa only [drainTurn, endCycle, clockDevices, hc, turnDmc, q1, q3, p1, p3] using h1
  · simpa only [drainTurn, endCycle, clockDevices, hc, q3, p3] using h2
  · simpa only [drainTurn, endCycle, clockDevices, hc, q1, q2, q3, p1, p2, p3] using h3

/-- In flat mode a turn takes one stall cycle off and does not touch the DMC. -/
theorem drainTurn_flat (s : State) (hc : s.cfg.busMode = .flat64k) :
    (drainTurn s).apu.dmc = s.apu.dmc ∧ (drainTurn s).cfg = s.cfg ∧ (drainTurn s).stall = s.stall - 1 := by
  obtain ⟨p1, p2, p3⟩ := advancePhase_keeps { s with stall := s.stall - 1 }
  simp only [drainTurn, endCycle, clockDevices, hc, p1, p2, p3, and_self]

/-! ### A sample that does not loop -/

theorem Dmc.clockTimer_reader (r : Region) (d : Dmc) :
    (d.clockTimer r).loop = d.loop ∧ (d.clockTimer r).bytesLeft = d.bytesLeft := by
  simp only [Dmc.clockTimer]
  (repeat' split) <;> exact ⟨rfl, rfl⟩

/-- A byte taken without the loop flag is one byte less. -/
theorem Dmc.take_once (b : Byte) (d : Dmc) (hl : d.loop = false) (hn : d.bytesLeft ≠ 0) :
    (d.take b).loop = false ∧ (d.take b).bytesLeft.toNat + 1 = d.bytesLeft.toNat := by
  have h0 : 0 < d.bytesLeft.toNat := Nat.pos_of_ne_zero fun e => hn (BitVec.eq_of_toNat_eq e)
  have hsub : (d.bytesLeft - 1).toNat + 1 = d.bytesLeft.toNat := by bv_omega
  simp only [Dmc.take, Dmc.sampleEnd, hl]
  (repeat' split) <;> first | exact ⟨rfl, hsub⟩ | exact ⟨hl, hsub⟩ | contradiction

theorem drain_ends_once (s : State) (hl : s.apu.dmc.loop = false) : (drainLoop (drainBound s) s).stall = 0 := by
  refine drainLoop_ends (fun t => t.apu.dmc.loop = false)
    (fun t => t.stall + t.cfg.dmcStallCycles * t.apu.dmc.bytesLeft.toNat) (fun t ht hs => ?_) _ s hl ?_ ?_
  · cases hc : t.cfg.busMode
    · obtain ⟨b, h1, h2, h3⟩ := drainTurn_console t hc
      obtain ⟨k1, k2⟩ := Dmc.clockTimer_reader t.cfg.region t.apu.dmc
      rw [h1, h2, h3]
      unfold turnDmc
      split
      next hw =>
        have hn : (t.apu.dmc.clockTimer t.cfg.region).bytesLeft ≠ 0 := by
          simp only [Dmc.wantsByte, Bool.and_eq_true, bne_iff_ne] at hw; exact hw.2
        obtain ⟨m1, m2⟩ := Dmc.take_once b _ (k1.trans ht) hn
        rw [k2] at m2
        refine ⟨m1, ?_⟩
        rw [← m2, Nat.mul_succ]
        omega
      next => exact ⟨k1.trans ht, by rw [k2]; omega⟩
    · obtain ⟨h1, h2, h3⟩ := drainTurn_flat t hc
      rw [h1, h2, h3]
      exact ⟨ht, by omega⟩
  · have := s.apu.dmc.bytesLeft.isLt
    have : s.cfg.dmcStallCycles * s.apu.dmc.bytesLeft.toNat ≤ s.cfg.dmcStallCycles * 4096 :=
      Nat.mul_le_mul_left _ (by omega)
    simp only [drainBound]
    omega
  · intro t _ h
    omega

/-! ### Few stall cycles for each fetch -/

/-- The ticks of an output bit. -/
def Dmc.rate (r : Region) (d : Dmc) : Nat := tableAt (dmcRates r) d.rateIndex.toNat

theorem Dmc.rate_range (r : Region) (d : Dmc) : 50 ≤ d.rate r ∧ d.rate r < 512 := by
  have all : ∀ i : BitVec 4, 50 ≤ tableAt (dmcRates r) i.toNat ∧ tableAt (dmcRates r) i.toNat < 512 := by
    cases r <;> decide
  exact all d.rateIndex

/-- The output bits left of the byte in the shift register; the counter's 0 counts as 16. -/
def Dmc.bitsToGo (d : Dmc) : Nat := if d.bitsLeft.toNat = 0 then 16 else d.bitsLeft.toNat

/-- The ticks until the next byte is taken from the buffer. -/
def Dmc.ticksLeft (r : Region) (d : Dmc) : Nat := d.timer.toNat + 1 + (d.bitsToGo - 1) * d.rate r

/-- A clock of the timer is one tick less; the last tick of a byte may empty the buffer, and starts at least 400. -/
theorem Dmc.clockTimer_ticksLeft (r : Region) (d : Dmc) :
    ((d.clockTimer r).ticksLeft r + 1 = d.ticksLeft r ∧ (d.clockTimer r).bufferEmpty = d.bufferEmpty) ∨
      (d.ticksLeft r = 1 ∧ 400 ≤ (d.clockTimer r).ticksLeft r) := by
  obtain ⟨r1, r2⟩ := d.rate_range r
  have ht : (BitVec.ofNat 9 (d.rate r - 1)).toNat = d.rate r - 1 := by
    rw [BitVec.toNat_ofNat, Nat.mod_eq_of_lt (by omega)]
  unfold Dmc.clockTimer
  split
  next h0 =>
    have hb := d.bitsLeft.isLt
    have hz : (d.bitsLeft - 1 = 0) ↔ d.bitsLeft.toNat = 1 := by constructor <;> intro h <;> bv_omega
    dsimp only
    simp only [hz]
    split
    next h1 =>
      right
      have hgo : d.bitsToGo = 1 := by simp [Dmc.bitsToGo, h1]
      refine ⟨by simp [Dmc.ticksLeft, hgo, h0], ?_⟩
      have key (e : Dmc) (h8 : e.bitsLeft = 8) (hr : e.rateIndex = d.rateIndex)
          (h9 : e.timer = BitVec.ofNat 9 (d.rate r - 1)) : 400 ≤ e.ticksLeft r := by
        have h7 : e.bitsToGo = 8 := by simp [Dmc.bitsToGo, h8]
        have hrate : e.rate r = d.rate r := by simp only [Dmc.rate, hr]
        simp only [Dmc.ticksLeft, h7, hrate, h9, ht]
        omega
      split <;> exact key _ rfl rfl rfl
    next h1 =>
      left
      refine ⟨?_, rfl⟩
      have hgo : (if (d.bitsLeft - 1).toNat = 0 then 16 else (d.bitsLeft - 1).toNat) + 1 = d.bitsToGo := by
        unfold Dmc.bitsToGo
        split <;> split <;> bv_omega
      have h2 : 2 ≤ d.bitsToGo := by
        unfold Dmc.bitsToGo
        split <;> omega
      obtain ⟨k, hk⟩ : ∃ k, d.bitsToGo = k + 2 := ⟨d.bitsToGo - 2, by omega⟩
      have hk1 : (if (d.bitsLeft - 1).toNat = 0 then 16 else (d.bitsLeft - 1).toNat) = k + 1 := by omega
      simp only [Dmc.ticksLeft, Dmc.bitsToGo] at hk ⊢
      simp only [hk, hk1, h0]
      change (BitVec.ofNat 9 (d.rate r - 1)).toNat + 1 + (k + 1 - 1) * d.rate r + 1 = _
      rw [ht, show k + 1 - 1 = k by omega, show k + 2 - 1 = k + 1 by omega, Nat.succ_mul]
      change d.rate r - 1 + 1 + k * d.rate r + 1 = 0 + 1 + (k * d.rate r + d.rate r)
      omega
  next h0 =>
    left
    have : (d.timer - 1).toNat + 1 = d.timer.toNat := by bv_omega
    refine ⟨?_, rfl⟩
    simp only [Dmc.ticksLeft, Dmc.bitsToGo, Dmc.rate]
    omega

/-- The reader's byte does not move the output unit. -/
theorem Dmc.take_ticksLeft (r : Region) (b : Byte) (d : Dmc) :
    (d.take b).ticksLeft r = d.ticksLeft r ∧ (d.take b).bufferEmpty = false := by
  simp only [Dmc.take, Dmc.sampleEnd, Dmc.restart]
  (repeat' split) <;> exact ⟨rfl, rfl⟩

/-- The measure of a drain with D = DMC_STALL_CYCLES: D + 1 for each cycle owed or soon owed, less D for each of the
last 400 ticks before the next byte. -/
def drainMeasure (s : State) : Nat :=
  (s.cfg.dmcStallCycles + 1) *
      (s.stall + if s.apu.dmc.bufferEmpty then s.cfg.dmcStallCycles else 0)
    + s.cfg.dmcStallCycles * (400 - min 400 (s.apu.dmc.ticksLeft s.cfg.region))

/-- A turn with no new byte due: one cycle owed less, one tick nearer to the next byte. -/
theorem measure_of_turn (d x x' y y' : Nat) (hx : x' + 1 = x) (hy : y' ≤ y + 1) :
    (d + 1) * x' + d * y' < (d + 1) * x + d * y := by
  have h := Nat.mul_le_mul_left d hy
  rw [Nat.mul_succ] at h
  rw [← hx, Nat.mul_succ]
  omega

/-- A turn in which the buffer is emptied: at most `d` cycles more are owed, and 399 ticks of waiting are won. -/
theorem measure_of_byte (d x x' : Nat) (hx : x' + 1 ≤ x + d) (hd : d < 400) :
    (d + 1) * x' + d * 0 < (d + 1) * x + d * 399 := by
  have h := Nat.mul_le_mul_left (d + 1) hx
  have k := Nat.mul_le_mul_left d (show d ≤ 399 by omega)
  rw [Nat.mul_succ, Nat.mul_add, Nat.succ_mul d d] at h
  omega

theorem drain_ends_few (s : State) (hd : s.cfg.dmcStallCycles < 400) : (drainLoop (drainBound s) s).stall = 0 := by
  refine drainLoop_ends (fun t => t.cfg.dmcStallCycles < 400) drainMeasure (fun t ht hs => ?_) _ s hd ?_ ?_
  · cases hc : t.cfg.busMode
    · obtain ⟨b, h1, h2, h3⟩ := drainTurn_console t hc
      refine ⟨h2 ▸ ht, ?_⟩
      simp only [drainMeasure, h2, h3]
      have hdmc : (turnDmc t b).ticksLeft t.cfg.region = (t.apu.dmc.clockTimer t.cfg.region).ticksLeft t.cfg.region ∧
          (if (t.apu.dmc.clockTimer t.cfg.region).wantsByte then t.cfg.dmcStallCycles else 0)
              + (if (turnDmc t b).bufferEmpty then t.cfg.dmcStallCycles else 0)
            = (if (t.apu.dmc.clockTimer t.cfg.region).bufferEmpty then t.cfg.dmcStallCycles else 0) := by
        unfold turnDmc
        split
        next hw =>
          obtain ⟨k1, k2⟩ := Dmc.take_ticksLeft t.cfg.region b (t.apu.dmc.clockTimer t.cfg.region)
          have : (t.apu.dmc.clockTimer t.cfg.region).bufferEmpty = true := by
            simp only [Dmc.wantsByte, Bool.and_eq_true] at hw; exact hw.1
          simp [k1, k2, this]
        next => simp
      rw [h1, hdmc.1]
      rcases Dmc.clockTimer_ticksLeft t.cfg.region t.apu.dmc with ⟨k, e⟩ | ⟨k, k'⟩
      · rw [e] at hdmc
        exact measure_of_turn _ _ _ _ _ (by omega) (by omega)
      · rw [k, show 400 - min 400 1 = 399 from rfl,
          show 400 - min 400 ((t.apu.dmc.clockTimer t.cfg.region).ticksLeft t.cfg.region) = 0 by omega]
        refine measure_of_byte _ _ _ ?_ ht
        have := hdmc.2
        have : (if (t.apu.dmc.clockTimer t.cfg.region).bufferEmpty then t.cfg.dmcStallCycles else 0)
            ≤ t.cfg.dmcStallCycles := by split <;> omega
        omega
    · obtain ⟨h1, h2, h3⟩ := drainTurn_flat t hc
      refine ⟨h2 ▸ ht, ?_⟩
      simp only [drainMeasure, h1, h2, h3]
      exact measure_of_turn _ _ _ _ _ (by omega) (by omega)
  · have h0 : (if s.apu.dmc.bufferEmpty then s.cfg.dmcStallCycles else 0) ≤ s.cfg.dmcStallCycles := by split <;> omega
    have h1 := Nat.mul_le_mul (show s.cfg.dmcStallCycles + 1 ≤ 400 by omega) (Nat.add_le_add_left h0 s.stall)
    have h2 := Nat.mul_le_mul_left s.cfg.dmcStallCycles
      (show 400 - min 400 (s.apu.dmc.ticksLeft s.cfg.region) ≤ 400 by omega)
    simp only [drainMeasure, drainBound]
    omega
  · intro t _ h
    have := (Nat.add_eq_zero_iff.mp h).1
    have := (Nat.mul_eq_zero.mp this).resolve_left (by omega)
    omega

/-! ### The drain -/

/-- A drain that ends leaves nothing owed and marks nothing: always with DMC_STALL_CYCLES below 400, and always where
the sample does not loop. -/
theorem drainStall_ends (s : State) (h : s.cfg.dmcStallCycles < 400 ∨ s.apu.dmc.loop = false) :
    (drainStall s).stall = 0 ∧ (drainStall s).hung = (drainLoop (drainBound s) s).hung := by
  have hz : (drainLoop (drainBound s) s).stall = 0 := h.elim (drain_ends_few s) (drain_ends_once s)
  unfold drainStall
  split
  next h0 =>
    refine ⟨h0, ?_⟩
    have : drainLoop (drainBound s) s = s := by
      cases drainBound s with
      | zero => rfl
      | succ n => simp only [drainLoop, h0, if_true]
    rw [this]
  next => exact ⟨hz, by simp [hz]⟩

end Sys2Proof.Machine
end

