-- ==== Sys2Proof/Laws/Ppu.lean ====
section
/-!
SUPPORT. What the PPU's steps leave alone: a dot and a register read change neither the control registers, nor t, nor
fine X, nor any memory.
-/

namespace Sys2Proof.Machine

/-- The control registers, t, fine X and the three memories of the PPU are the same. -/
structure Ppu.Same (p q : Ppu) : Prop where
  ctrl : q.ctrl = p.ctrl
  mask : q.mask = p.mask
  t : q.t = p.t
  x : q.x = p.x
  oam : q.oam = p.oam
  vram : q.vram = p.vram
  palette : q.palette = p.palette

theorem Ppu.Same.refl (p : Ppu) : p.Same p := ⟨rfl, rfl, rfl, rfl, rfl, rfl, rfl⟩

theorem Ppu.Same.trans {p q r : Ppu} (h : p.Same q) (k : q.Same r) : p.Same r :=
  ⟨k.ctrl.trans h.ctrl, k.mask.trans h.mask, k.t.trans h.t, k.x.trans h.x, k.oam.trans h.oam, k.vram.trans h.vram,
    k.palette.trans h.palette⟩

theorem Ppu.Same.ite {p q r : Ppu} {c : Prop} [Decidable c] (h : p.Same q) (k : p.Same r) :
    p.Same (if c then q else r) := by
  split
  · exact h
  · exact k

theorem Ppu.same_flagEvents (p : Ppu) : p.Same p.flagEvents := by
  unfold Ppu.flagEvents
  exact .ite (.ite ⟨rfl, rfl, rfl, rfl, rfl, rfl, rfl⟩ (.ite ⟨rfl, rfl, rfl, rfl, rfl, rfl, rfl⟩ (.refl p))) (.refl p)

theorem Ppu.same_tileStep (c : Cart) (p : Ppu) : p.Same (p.tileStep c) := by
  unfold Ppu.tileStep
  split <;> exact ⟨rfl, rfl, rfl, rfl, rfl, rfl, rfl⟩

theorem Ppu.same_background (c : Cart) (p : Ppu) : p.Same (p.background c) := by
  have s1 (a : Prop) [Decidable a] (q : Ppu) : q.Same (if a then q.shift else q) :=
    .ite ⟨rfl, rfl, rfl, rfl, rfl, rfl, rfl⟩ (.refl q)
  have s2 (a : Prop) [Decidable a] (q : Ppu) : q.Same (if a then q.tileStep c else q) :=
    .ite (q.same_tileStep c) (.refl q)
  have s3 (a : Prop) [Decidable a] (q : Ppu) : q.Same (if a then { q with v := incY q.v } else q) :=
    .ite ⟨rfl, rfl, rfl, rfl, rfl, rfl, rfl⟩ (.refl q)
  have s4 (a : Prop) [Decidable a] (q : Ppu) : q.Same (if a then { q.reload with v := copyX q.v q.t } else q) :=
    .ite ⟨rfl, rfl, rfl, rfl, rfl, rfl, rfl⟩ (.refl q)
  have s5 (a : Prop) [Decidable a] (q : Ppu) : q.Same (if a then { q with bgNt := q.read c (ntAddr q.v) } else q) :=
    .ite ⟨rfl, rfl, rfl, rfl, rfl, rfl, rfl⟩ (.refl q)
  have s6 (a : Prop) [Decidable a] (q : Ppu) : q.Same (if a then { q with v := copyY q.v q.t } else q) :=
    .ite ⟨rfl, rfl, rfl, rfl, rfl, rfl, rfl⟩ (.refl q)
  unfold Ppu.background
  exact .ite (.trans (.trans (.trans (.trans (.trans (s1 _ _) (s2 _ _)) (s3 _ _)) (s4 _ _)) (s5 _ _)) (s6 _ _))
    (.refl p)

theorem Ppu.same_spriteStep (cfg : Params) (c : Cart) (p : Ppu) : p.Same (p.spriteStep cfg c) := by
  have s1 (a b : Prop) [Decidable a] [Decidable b] (q : Ppu) :
      q.Same (if a then (if b then q.evaluateSprites c else { q with spr := [], spr0OnLine := false }) else q) :=
    .ite (.ite ⟨rfl, rfl, rfl, rfl, rfl, rfl, rfl⟩ ⟨rfl, rfl, rfl, rfl, rfl, rfl, rfl⟩) (.refl q)
  have s2 (a : Prop) [Decidable a] (q : Ppu) : q.Same (if a then { q with oamaddr := 0 } else q) :=
    .ite ⟨rfl, rfl, rfl, rfl, rfl, rfl, rfl⟩ (.refl q)
  unfold Ppu.spriteStep
  exact .ite (.trans (s1 _ _ _) (s2 _ _)) (.refl p)

theorem Ppu.same_pixelStep (cfg : Params) (p : Ppu) : p.Same (p.pixelStep cfg) := by
  unfold Ppu.pixelStep
  exact .ite ⟨rfl, rfl, rfl, rfl, rfl, rfl, rfl⟩ (.refl p)

theorem Ppu.same_advance (p : Ppu) : p.Same p.advance := by
  unfold Ppu.advance
  exact .ite ⟨rfl, rfl, rfl, rfl, rfl, rfl, rfl⟩ (.ite (.ite ⟨rfl, rfl, rfl, rfl, rfl, rfl, rfl⟩
    ⟨rfl, rfl, rfl, rfl, rfl, rfl, rfl⟩) ⟨rfl, rfl, rfl, rfl, rfl, rfl, rfl⟩)

/-- What a dot leaves alone. -/
theorem Ppu.same_dotStep (cfg : Params) (c : Cart) (p : Ppu) : p.Same (p.dotStep cfg c) :=
  .trans (.trans (.trans (.trans p.same_flagEvents (Ppu.same_background c _)) (Ppu.same_spriteStep cfg c _))
    (Ppu.same_pixelStep cfg _)) (Ppu.same_advance _)

/-- What a CPU read of a PPU register leaves alone. -/
theorem Ppu.same_regRead (c : Cart) (p : Ppu) (r : Nat) : p.Same (p.regRead c r).2 := by
  unfold Ppu.regRead
  split
  · exact ⟨rfl, rfl, rfl, rfl, rfl, rfl, rfl⟩
  · exact ⟨rfl, rfl, rfl, rfl, rfl, rfl, rfl⟩
  · simp only; split <;> exact ⟨rfl, rfl, rfl, rfl, rfl, rfl, rfl⟩
  · exact .refl p

end Sys2Proof.Machine
end

