-- ==== Sys2Proof/Laws/State.lean ====
section
/-!
SUPPORT. One lemma per field of the shared updates of State, Regs and Flags, each true by `rfl`, so that no proof
unfolds a record update.
-/

namespace Sys2Proof.Machine

/-! ### setRegs -/

@[simp] theorem setRegs_regs (f : Regs → Regs) (s : State) : (setRegs f s).regs = f s.regs := rfl
@[simp] theorem setRegs_cfg (f : Regs → Regs) (s : State) : (setRegs f s).cfg = s.cfg := rfl
@[simp] theorem setRegs_cycles (f : Regs → Regs) (s : State) : (setRegs f s).cycles = s.cycles := rfl
@[simp] theorem setRegs_delta (f : Regs → Regs) (s : State) : (setRegs f s).delta = s.delta := rfl
@[simp] theorem setRegs_nmiPending (f : Regs → Regs) (s : State) : (setRegs f s).nmiPending = s.nmiPending := rfl
@[simp] theorem setRegs_trapped (f : Regs → Regs) (s : State) : (setRegs f s).trapped = s.trapped := rfl
@[simp] theorem setRegs_iPoll (f : Regs → Regs) (s : State) : (setRegs f s).iPoll = s.iPoll := rfl
@[simp] theorem setRegs_prevCli (f : Regs → Regs) (s : State) : (setRegs f s).prevCli = s.prevCli := rfl
@[simp] theorem setRegs_palPhase (f : Regs → Regs) (s : State) : (setRegs f s).palPhase = s.palPhase := rfl
@[simp] theorem setRegs_stall (f : Regs → Regs) (s : State) : (setRegs f s).stall = s.stall := rfl
@[simp] theorem setRegs_oamDmaPage (f : Regs → Regs) (s : State) : (setRegs f s).oamDmaPage = s.oamDmaPage := rfl
@[simp] theorem setRegs_fault (f : Regs → Regs) (s : State) : (setRegs f s).fault = s.fault := rfl
@[simp] theorem setRegs_ram (f : Regs → Regs) (s : State) : (setRegs f s).ram = s.ram := rfl
@[simp] theorem setRegs_exram (f : Regs → Regs) (s : State) : (setRegs f s).exram = s.exram := rfl
@[simp] theorem setRegs_sram (f : Regs → Regs) (s : State) : (setRegs f s).sram = s.sram := rfl
@[simp] theorem setRegs_flat (f : Regs → Regs) (s : State) : (setRegs f s).flat = s.flat := rfl
@[simp] theorem setRegs_pads (f : Regs → Regs) (s : State) : (setRegs f s).pads = s.pads := rfl
@[simp] theorem setRegs_ppu (f : Regs → Regs) (s : State) : (setRegs f s).ppu = s.ppu := rfl
@[simp] theorem setRegs_apu (f : Regs → Regs) (s : State) : (setRegs f s).apu = s.apu := rfl
@[simp] theorem setRegs_cart (f : Regs → Regs) (s : State) : (setRegs f s).cart = s.cart := rfl
@[simp] theorem setRegs_draws (f : Regs → Regs) (s : State) : (setRegs f s).draws = s.draws := rfl
@[simp] theorem setRegs_hung (f : Regs → Regs) (s : State) : (setRegs f s).hung = s.hung := rfl
@[simp] theorem setRegs_setRegs (f g : Regs → Regs) (s : State) :
    setRegs f (setRegs g s) = setRegs (fun r => f (g r)) s := rfl

/-! ### setPc -/

@[simp] theorem setPc_pc (pc : Addr) (s : State) : (setPc pc s).regs.pc = pc := rfl
@[simp] theorem setPc_reg_a (pc : Addr) (s : State) : (setPc pc s).regs.a = s.regs.a := rfl
@[simp] theorem setPc_reg_x (pc : Addr) (s : State) : (setPc pc s).regs.x = s.regs.x := rfl
@[simp] theorem setPc_reg_y (pc : Addr) (s : State) : (setPc pc s).regs.y = s.regs.y := rfl
@[simp] theorem setPc_reg_s (pc : Addr) (s : State) : (setPc pc s).regs.s = s.regs.s := rfl
@[simp] theorem setPc_reg_p (pc : Addr) (s : State) : (setPc pc s).regs.p = s.regs.p := rfl
@[simp] theorem setPc_cfg (pc : Addr) (s : State) : (setPc pc s).cfg = s.cfg := rfl
@[simp] theorem setPc_cycles (pc : Addr) (s : State) : (setPc pc s).cycles = s.cycles := rfl
@[simp] theorem setPc_delta (pc : Addr) (s : State) : (setPc pc s).delta = s.delta := rfl
@[simp] theorem setPc_nmiPending (pc : Addr) (s : State) : (setPc pc s).nmiPending = s.nmiPending := rfl
@[simp] theorem setPc_trapped (pc : Addr) (s : State) : (setPc pc s).trapped = s.trapped := rfl
@[simp] theorem setPc_iPoll (pc : Addr) (s : State) : (setPc pc s).iPoll = s.iPoll := rfl
@[simp] theorem setPc_prevCli (pc : Addr) (s : State) : (setPc pc s).prevCli = s.prevCli := rfl
@[simp] theorem setPc_palPhase (pc : Addr) (s : State) : (setPc pc s).palPhase = s.palPhase := rfl
@[simp] theorem setPc_stall (pc : Addr) (s : State) : (setPc pc s).stall = s.stall := rfl
@[simp] theorem setPc_oamDmaPage (pc : Addr) (s : State) : (setPc pc s).oamDmaPage = s.oamDmaPage := rfl
@[simp] theorem setPc_fault (pc : Addr) (s : State) : (setPc pc s).fault = s.fault := rfl
@[simp] theorem setPc_ram (pc : Addr) (s : State) : (setPc pc s).ram = s.ram := rfl
@[simp] theorem setPc_exram (pc : Addr) (s : State) : (setPc pc s).exram = s.exram := rfl
@[simp] theorem setPc_sram (pc : Addr) (s : State) : (setPc pc s).sram = s.sram := rfl
@[simp] theorem setPc_flat (pc : Addr) (s : State) : (setPc pc s).flat = s.flat := rfl
@[simp] theorem setPc_pads (pc : Addr) (s : State) : (setPc pc s).pads = s.pads := rfl
@[simp] theorem setPc_ppu (pc : Addr) (s : State) : (setPc pc s).ppu = s.ppu := rfl
@[simp] theorem setPc_apu (pc : Addr) (s : State) : (setPc pc s).apu = s.apu := rfl
@[simp] theorem setPc_cart (pc : Addr) (s : State) : (setPc pc s).cart = s.cart := rfl
@[simp] theorem setPc_draws (pc : Addr) (s : State) : (setPc pc s).draws = s.draws := rfl
@[simp] theorem setPc_hung (pc : Addr) (s : State) : (setPc pc s).hung = s.hung := rfl

/-! ### setFlags -/

@[simp] theorem setFlags_p (f : Flags → Flags) (s : State) : (setFlags f s).regs.p = f s.regs.p := rfl
@[simp] theorem setFlags_reg_a (f : Flags → Flags) (s : State) : (setFlags f s).regs.a = s.regs.a := rfl
@[simp] theorem setFlags_reg_x (f : Flags → Flags) (s : State) : (setFlags f s).regs.x = s.regs.x := rfl
@[simp] theorem setFlags_reg_y (f : Flags → Flags) (s : State) : (setFlags f s).regs.y = s.regs.y := rfl
@[simp] theorem setFlags_reg_s (f : Flags → Flags) (s : State) : (setFlags f s).regs.s = s.regs.s := rfl
@[simp] theorem setFlags_reg_pc (f : Flags → Flags) (s : State) : (setFlags f s).regs.pc = s.regs.pc := rfl
@[simp] theorem setFlags_cfg (f : Flags → Flags) (s : State) : (setFlags f s).cfg = s.cfg := rfl
@[simp] theorem setFlags_cycles (f : Flags → Flags) (s : State) : (setFlags f s).cycles = s.cycles := rfl
@[simp] theorem setFlags_delta (f : Flags → Flags) (s : State) : (setFlags f s).delta = s.delta := rfl
@[simp] theorem setFlags_nmiPending (f : Flags → Flags) (s : State) : (setFlags f s).nmiPending = s.nmiPending := rfl
@[simp] theorem setFlags_trapped (f : Flags → Flags) (s : State) : (setFlags f s).trapped = s.trapped := rfl
@[simp] theorem setFlags_iPoll (f : Flags → Flags) (s : State) : (setFlags f s).iPoll = s.iPoll := rfl
@[simp] theorem setFlags_prevCli (f : Flags → Flags) (s : State) : (setFlags f s).prevCli = s.prevCli := rfl
@[simp] theorem setFlags_palPhase (f : Flags → Flags) (s : State) : (setFlags f s).palPhase = s.palPhase := rfl
@[simp] theorem setFlags_stall (f : Flags → Flags) (s : State) : (setFlags f s).stall = s.stall := rfl
@[simp] theorem setFlags_oamDmaPage (f : Flags → Flags) (s : State) : (setFlags f s).oamDmaPage = s.oamDmaPage := rfl
@[simp] theorem setFlags_fault (f : Flags → Flags) (s : State) : (setFlags f s).fault = s.fault := rfl
@[simp] theorem setFlags_ram (f : Flags → Flags) (s : State) : (setFlags f s).ram = s.ram := rfl
@[simp] theorem setFlags_exram (f : Flags → Flags) (s : State) : (setFlags f s).exram = s.exram := rfl
@[simp] theorem setFlags_sram (f : Flags → Flags) (s : State) : (setFlags f s).sram = s.sram := rfl
@[simp] theorem setFlags_flat (f : Flags → Flags) (s : State) : (setFlags f s).flat = s.flat := rfl
@[simp] theorem setFlags_pads (f : Flags → Flags) (s : State) : (setFlags f s).pads = s.pads := rfl
@[simp] theorem setFlags_ppu (f : Flags → Flags) (s : State) : (setFlags f s).ppu = s.ppu := rfl
@[simp] theorem setFlags_apu (f : Flags → Flags) (s : State) : (setFlags f s).apu = s.apu := rfl
@[simp] theorem setFlags_cart (f : Flags → Flags) (s : State) : (setFlags f s).cart = s.cart := rfl
@[simp] theorem setFlags_draws (f : Flags → Flags) (s : State) : (setFlags f s).draws = s.draws := rfl
@[simp] theorem setFlags_hung (f : Flags → Flags) (s : State) : (setFlags f s).hung = s.hung := rfl

/-! ### Flag updates -/

@[simp] theorem Flags.setNZ_n (v : Byte) (p : Flags) : (p.setNZ v).n = v.getLsbD 7 := rfl
@[simp] theorem Flags.setNZ_v (v : Byte) (p : Flags) : (p.setNZ v).v = p.v := rfl
@[simp] theorem Flags.setNZ_d (v : Byte) (p : Flags) : (p.setNZ v).d = p.d := rfl
@[simp] theorem Flags.setNZ_i (v : Byte) (p : Flags) : (p.setNZ v).i = p.i := rfl
@[simp] theorem Flags.setNZ_z (v : Byte) (p : Flags) : (p.setNZ v).z = (v == 0) := rfl
@[simp] theorem Flags.setNZ_c (v : Byte) (p : Flags) : (p.setNZ v).c = p.c := rfl
@[simp] theorem Flags.addC_n (a b : Byte) (p : Flags) : (p.addC a b).n = (addCResult a b p.c).getLsbD 7 := rfl
@[simp] theorem Flags.addC_v (a b : Byte) (p : Flags) : (p.addC a b).v = addCOverflow a b p.c := rfl
@[simp] theorem Flags.addC_d (a b : Byte) (p : Flags) : (p.addC a b).d = p.d := rfl
@[simp] theorem Flags.addC_i (a b : Byte) (p : Flags) : (p.addC a b).i = p.i := rfl
@[simp] theorem Flags.addC_z (a b : Byte) (p : Flags) : (p.addC a b).z = (addCResult a b p.c == 0) := rfl
@[simp] theorem Flags.addC_c (a b : Byte) (p : Flags) : (p.addC a b).c = addCCarry a b p.c := rfl
@[simp] theorem Flags.cmp_n (r m : Byte) (p : Flags) : (p.cmp r m).n = (r - m).getLsbD 7 := rfl
@[simp] theorem Flags.cmp_v (r m : Byte) (p : Flags) : (p.cmp r m).v = p.v := rfl
@[simp] theorem Flags.cmp_d (r m : Byte) (p : Flags) : (p.cmp r m).d = p.d := rfl
@[simp] theorem Flags.cmp_i (r m : Byte) (p : Flags) : (p.cmp r m).i = p.i := rfl
@[simp] theorem Flags.cmp_z (r m : Byte) (p : Flags) : (p.cmp r m).z = (r - m == 0) := rfl
@[simp] theorem Flags.cmp_c (r m : Byte) (p : Flags) : (p.cmp r m).c = decide (m.toNat ≤ r.toNat) := rfl
@[simp] theorem Flags.ofByte_n (b : Byte) : (Flags.ofByte b).n = b.getLsbD 7 := rfl
@[simp] theorem Flags.ofByte_v (b : Byte) : (Flags.ofByte b).v = b.getLsbD 6 := rfl
@[simp] theorem Flags.ofByte_d (b : Byte) : (Flags.ofByte b).d = b.getLsbD 3 := rfl
@[simp] theorem Flags.ofByte_i (b : Byte) : (Flags.ofByte b).i = b.getLsbD 2 := rfl
@[simp] theorem Flags.ofByte_z (b : Byte) : (Flags.ofByte b).z = b.getLsbD 1 := rfl
@[simp] theorem Flags.ofByte_c (b : Byte) : (Flags.ofByte b).c = b.getLsbD 0 := rfl

/-- P as a byte and back: the break field is no storage cell (10_state.md R47, R48). -/
theorem Flags.ofByte_toByte (p : Flags) : Flags.ofByte p.toByte = p := by
  obtain ⟨n, v, d, i, z, c⟩ := p
  cases n <;> cases v <;> cases d <;> cases i <;> cases z <;> cases c <;> rfl

end Sys2Proof.Machine
end

