-- ==== Sys2Proof/Laws/Cycle.lean ====
section
/-!
SUPPORT. What one CPU cycle can do, said once: the devices' part, a bus read and a bus write each have one lemma, and
the cycles `tick`, `memRead` and `memWrite` follow.
-/

namespace Sys2Proof.Machine

/-- What every cycle without a store keeps: the CPU registers and run state, every memory, the control registers; and
the clocks go forward. -/
structure Cycled (s t : State) : Prop where
  regs : t.regs = s.regs
  cfg : t.cfg = s.cfg
  trapped : t.trapped = s.trapped
  iPoll : t.iPoll = s.iPoll
  prevCli : t.prevCli = s.prevCli
  fault : t.fault = s.fault
  oamDmaPage : t.oamDmaPage = s.oamDmaPage
  ram : t.ram = s.ram
  exram : t.exram = s.exram
  sram : t.sram = s.sram
  flat : t.flat = s.flat
  cart : t.cart = s.cart
  ppu : s.ppu.Same t.ppu
  apu : t.apu.settings = s.apu.settings
  strobe : t.pads.strobe = s.pads.strobe
  host : t.pads.host = s.pads.host
  clocked : Clocked s t
  hung : s.cfg.dmcStallCycles < 400 → t.hung = s.hung

theorem Clocked.refl (s : State) : Clocked s s := ⟨Nat.le_refl _, Nat.add_comm _ _ ▸ rfl, id⟩

theorem Clocked.trans {s t u : State} (h : Clocked s t) (k : Clocked t u) : Clocked s u :=
  ⟨Nat.le_trans h.forward k.forward, by have := h.count; have := k.count; omega, fun n => k.nmi (h.nmi n)⟩

/-- A change of anything but the clocks and the NMI latch. -/
theorem Clocked.same {s t : State} (c : t.cycles = s.cycles) (d : t.delta = s.delta)
    (n : s.nmiPending = true → t.nmiPending = true) : Clocked s t :=
  ⟨by omega, by omega, n⟩

theorem Cycled.refl (s : State) : Cycled s s :=
  ⟨rfl, rfl, rfl, rfl, rfl, rfl, rfl, rfl, rfl, rfl, rfl, rfl, .refl _, rfl, rfl, rfl, .refl s, fun _ => rfl⟩

theorem Cycled.trans {s t u : State} (h : Cycled s t) (k : Cycled t u) : Cycled s u :=
  ⟨k.regs.trans h.regs, k.cfg.trans h.cfg, k.trapped.trans h.trapped, k.iPoll.trans h.iPoll,
    k.prevCli.trans h.prevCli, k.fault.trans h.fault, k.oamDmaPage.trans h.oamDmaPage, k.ram.trans h.ram,
    k.exram.trans h.exram, k.sram.trans h.sram, k.flat.trans h.flat, k.cart.trans h.cart, h.ppu.trans k.ppu,
    k.apu.trans h.apu, k.strobe.trans h.strobe, k.host.trans h.host, h.clocked.trans k.clocked,
    fun d => (k.hung (h.cfg ▸ d)).trans (h.hung d)⟩

/-! ### The devices -/

theorem cycled_ppuDot (s : State) : Cycled s (ppuDot s) :=
  ⟨rfl, rfl, rfl, rfl, rfl, rfl, rfl, rfl, rfl, rfl, rfl, rfl, Ppu.same_dotStep _ _ _, rfl, rfl, rfl,
    .same rfl rfl fun h => by simp [ppuDot, h], fun _ => rfl⟩

theorem cycled_ppuDots (n : Nat) (s : State) : Cycled s (ppuDots n s) := by
  induction n generalizing s with
  | zero => exact .refl s
  | succ n ih => exact (cycled_ppuDot s).trans (ih _)

theorem cycled_advancePhase (s : State) : Cycled s (advancePhase s) := by
  unfold advancePhase
  split
  · exact .refl s
  · exact ⟨rfl, rfl, rfl, rfl, rfl, rfl, rfl, rfl, rfl, rfl, rfl, rfl, .refl _, rfl, rfl, rfl, .same rfl rfl id,
      fun _ => rfl⟩

theorem cycled_drawOpenBus (s : State) : Cycled s (drawOpenBus s).2 :=
  ⟨rfl, rfl, rfl, rfl, rfl, rfl, rfl, rfl, rfl, rfl, rfl, rfl, .refl _, rfl, rfl, rfl, .same rfl rfl id, fun _ => rfl⟩

theorem cycled_latchButtons (second : Bool) (s : State) : Cycled s (latchButtons second s).2 := by
  unfold latchButtons
  split
  · exact .refl s
  · exact ⟨rfl, rfl, rfl, rfl, rfl, rfl, rfl, rfl, rfl, rfl, rfl, rfl, .refl _, rfl, rfl, rfl, .same rfl rfl id,
      fun _ => rfl⟩

theorem cycled_padRead (second : Bool) (s : State) : Cycled s (padRead second s).2 := by
  have k (v : Byte) (t : State) (h : Cycled s t) : Cycled s { t with pads := s.pads.setShift second v } := by
    refine ⟨h.regs, h.cfg, h.trapped, h.iPoll, h.prevCli, h.fault, h.oamDmaPage, h.ram, h.exram, h.sram, h.flat, h.cart,
      h.ppu, h.apu, ?_, ?_, ⟨h.clocked.forward, h.clocked.count, h.clocked.nmi⟩, h.hung⟩ <;>
      cases second <;> rfl
  unfold padRead
  split
  · exact (k _ _ (cycled_latchButtons second s)).trans (cycled_drawOpenBus _)
  · exact (k _ _ (.refl s)).trans (cycled_drawOpenBus _)

/-- A bus read changes a device's read-sensitive state only: no register, no memory, no control register, no clock. -/
theorem cycled_busRead (addr : Addr) (s : State) : Cycled s (busRead addr s).2 := by
  unfold busRead
  split
  · unfold consoleRead
    simp only
    (repeat' split)
    · exact .refl s
    · exact ⟨rfl, rfl, rfl, rfl, rfl, rfl, rfl, rfl, rfl, rfl, rfl, rfl, Ppu.same_regRead _ _ _, rfl, rfl, rfl,
        .same rfl rfl id, fun _ => rfl⟩
    · exact cycled_drawOpenBus s
    · exact ⟨rfl, rfl, rfl, rfl, rfl, rfl, rfl, rfl, rfl, rfl, rfl, rfl, .refl _, rfl, rfl, rfl, .same rfl rfl id,
        fun _ => rfl⟩
    · exact cycled_padRead false s
    · exact cycled_padRead true s
    · exact cycled_drawOpenBus s
    · exact .refl s
  · exact .refl s

theorem busRead_clock (addr : Addr) (s : State) :
    (busRead addr s).2.cycles = s.cycles ∧ (busRead addr s).2.delta = s.delta ∧ (busRead addr s).2.stall = s.stall
      ∧ (busRead addr s).2.palPhase = s.palPhase ∧ (busRead addr s).2.nmiPending = s.nmiPending := by
  simp only [busRead, consoleRead, padRead, latchButtons, ppuRegRead, apuStatusRead, drawOpenBus]
  (repeat' split) <;> exact ⟨rfl, rfl, rfl, rfl, rfl⟩

theorem cycled_dmcReader (s : State) : Cycled s (dmcReader s) := by
  unfold dmcReader
  split
  · have h : Cycled s { s with stall := s.stall + s.cfg.dmcStallCycles } :=
      ⟨rfl, rfl, rfl, rfl, rfl, rfl, rfl, rfl, rfl, rfl, rfl, rfl, .refl _, rfl, rfl, rfl, .same rfl rfl id,
        fun _ => rfl⟩
    refine (h.trans (cycled_busRead s.apu.dmc.curAddr _)).trans ?_
    exact ⟨rfl, rfl, rfl, rfl, rfl, rfl, rfl, rfl, rfl, rfl, rfl, rfl, .refl _, Apu.settings_take _ _, rfl, rfl,
      .same rfl rfl id, fun _ => rfl⟩
  · exact .refl s

theorem cycled_apuTick (s : State) : Cycled s (apuTick s) := by
  have h : Cycled s { s with apu := (s.apu.tickHead s.cfg).1 } :=
    ⟨rfl, rfl, rfl, rfl, rfl, rfl, rfl, rfl, rfl, rfl, rfl, rfl, .refl _, Apu.settings_tickHead _ _, rfl, rfl,
      .same rfl rfl id, fun _ => rfl⟩
  exact (h.trans (cycled_dmcReader _)).trans ⟨rfl, rfl, rfl, rfl, rfl, rfl, rfl, rfl, rfl, rfl, rfl, rfl, .refl _,
    Apu.settings_tickTail _ _ _, rfl, rfl, .same rfl rfl id, fun _ => rfl⟩

theorem cycled_clockDevices (s : State) : Cycled s (clockDevices s) := by
  unfold clockDevices
  split
  · exact ((cycled_advancePhase s).trans (cycled_ppuDots _ _)).trans (cycled_apuTick _)
  · exact cycled_advancePhase s

/-! ### Cycles -/

theorem cycled_endCycle (s : State) : Cycled s (endCycle s) := by
  have h := cycled_clockDevices s
  exact ⟨h.regs, h.cfg, h.trapped, h.iPoll, h.prevCli, h.fault, h.oamDmaPage, h.ram, h.exram, h.sram, h.flat, h.cart,
    h.ppu, h.apu, h.strobe, h.host,
    ⟨Nat.le_succ_of_le h.clocked.forward, by have := h.clocked.count; simp only [endCycle]; omega, h.clocked.nmi⟩,
      h.hung⟩

theorem cycled_setStall (n : Nat) (s : State) : Cycled s { s with stall := n } :=
  ⟨rfl, rfl, rfl, rfl, rfl, rfl, rfl, rfl, rfl, rfl, rfl, rfl, .refl _, rfl, rfl, rfl, .same rfl rfl id, fun _ => rfl⟩

theorem cycled_drainLoop (n : Nat) (s : State) : Cycled s (drainLoop n s) := by
  induction n generalizing s with
  | zero => exact .refl s
  | succ n ih =>
    unfold drainLoop
    split
    · exact .refl s
    · exact ((cycled_setStall _ s).trans (cycled_endCycle _)).trans (ih _)

theorem cycled_drainStall (s : State) : Cycled s (drainStall s) := by
  have h := cycled_drainLoop (drainBound s) s
  have hh (d : s.cfg.dmcStallCycles < 400) : (drainStall s).hung = s.hung :=
    (drainStall_ends s (.inl d)).2.trans (h.hung d)
  revert hh
  unfold drainStall
  split
  · exact fun _ => .refl s
  · exact fun hh => ⟨h.regs, h.cfg, h.trapped, h.iPoll, h.prevCli, h.fault, h.oamDmaPage, h.ram, h.exram, h.sram,
      h.flat,
      h.cart, h.ppu, h.apu, h.strobe, h.host, ⟨h.clocked.forward, h.clocked.count, h.clocked.nmi⟩, hh⟩

/-- One cycle with no bus access. -/
theorem cycled_tick (s : State) : Cycled s (tick s) := (cycled_drainStall s).trans (cycled_endCycle _)

/-- One cycle that reads. -/
theorem cycled_memRead (addr : Addr) (s : State) : Cycled s (memRead addr s).2 :=
  ((cycled_drainStall s).trans (cycled_busRead addr _)).trans (cycled_endCycle _)

theorem drainStall_of_none (s : State) (h : s.stall = 0) : drainStall s = s := by simp [drainStall, h]

/-! ### From the fields to the terms of claims -/

theorem Cycled.bytes {s t : State} (h : Cycled s t) : SameBytes s t := by
  intro k a
  cases k <;> simp [cellByte, h.ram, h.exram, h.sram, h.flat, h.cart, h.ppu.oam, h.ppu.vram, h.ppu.palette]

theorem Cycled.control {s t : State} (h : Cycled s t) : KeptControl s t :=
  ⟨h.cfg, h.trapped, h.iPoll, h.prevCli, h.fault, h.oamDmaPage, congrArg Cart.mapper h.cart, h.ppu.ctrl, h.ppu.mask,
    h.ppu.t, h.ppu.x, h.apu, h.strobe, h.host, h.hung⟩

theorem Cycled.undisturbed {s t : State} (h : Cycled s t) : Undisturbed s t := ⟨h.control, h.bytes, h.clocked⟩

theorem Cycled.run {s t : State} (h : Cycled s t) : KeptRun s t :=
  ⟨h.cfg, h.trapped, h.iPoll, h.prevCli, h.fault, h.host, h.hung⟩

theorem SameBytes.trans {s t u : State} (h : SameBytes s t) (k : SameBytes t u) : SameBytes s u :=
  fun m a => (k m a).trans (h m a)

theorem KeptRun.trans {s t u : State} (h : KeptRun s t) (k : KeptRun t u) : KeptRun s u :=
  ⟨k.cfg.trans h.cfg, k.trapped.trans h.trapped, k.iPoll.trans h.iPoll, k.prevCli.trans h.prevCli,
    k.fault.trans h.fault, k.host.trans h.host, fun d => (k.hung (h.cfg ▸ d)).trans (h.hung d)⟩

theorem KeptControl.trans {s t u : State} (h : KeptControl s t) (k : KeptControl t u) : KeptControl s u :=
  ⟨k.cfg.trans h.cfg, k.trapped.trans h.trapped, k.iPoll.trans h.iPoll, k.prevCli.trans h.prevCli,
    k.fault.trans h.fault, k.oamDmaPage.trans h.oamDmaPage, k.mapper.trans h.mapper, k.ctrl.trans h.ctrl,
    k.mask.trans h.mask, k.tAddr.trans h.tAddr, k.fineX.trans h.fineX, k.apu.trans h.apu, k.strobe.trans h.strobe,
    k.host.trans h.host, fun d => (k.hung (h.cfg ▸ d)).trans (h.hung d)⟩

theorem Undisturbed.trans {s t u : State} (h : Undisturbed s t) (k : Undisturbed t u) : Undisturbed s u :=
  ⟨h.control.trans k.control, h.bytes.trans k.bytes, h.clocked.trans k.clocked⟩

/-- A change of the registers alone disturbs nothing. -/
theorem undisturbed_setRegs (f : Regs → Regs) (s : State) : Undisturbed s (setRegs f s) :=
  ⟨⟨rfl, rfl, rfl, rfl, rfl, rfl, rfl, rfl, rfl, rfl, rfl, rfl, rfl, rfl, fun _ => rfl⟩, fun k _ => by cases k <;> rfl,
    .same rfl rfl id⟩

/-! ### Stores -/

theorem stored_ppuRegWrite (addr : Addr) (v : Byte) (s : State) (hc : s.cfg.busMode = .console)
    (h1 : ¬addr.toNat < 0x2000) (h2 : addr.toNat < 0x4000) :
    Stored addr v s (ppuRegWrite (addr.toNat % 8) v s) := by
  intro k a
  simp only [storeTarget, hc, h1, h2, if_false, if_true]
  have hr : addr.toNat % 8 < 8 := Nat.mod_lt _ (by decide)
  generalize addr.toNat % 8 = r at *
  have cases8 : r = 0 ∨ r = 1 ∨ r = 2 ∨ r = 3 ∨ r = 4 ∨ r = 5 ∨ r = 6 ∨ r = 7 := by omega
  rcases cases8 with rfl | rfl | rfl | rfl | rfl | rfl | rfl | rfl
  · cases k <;> rfl
  · cases k <;> rfl
  · cases k <;> rfl
  · cases k <;> rfl
  · cases k <;> simp [cellByte, ppuRegWrite, Ppu.regWrite, Cart.ppuRegWrite, Memory.byte_write, eq_comm]
  · cases hw : s.ppu.w <;> cases k <;> simp [cellByte, ppuRegWrite, Ppu.regWrite, Ppu.scrollWrite, Cart.ppuRegWrite, hw]
  · cases hw : s.ppu.w <;> cases k <;> simp [cellByte, ppuRegWrite, Ppu.regWrite, Ppu.addrWrite, Cart.ppuRegWrite, hw]
  · simp only [ppuDataTarget]
    by_cases ha : s.ppu.v.toNat % 0x4000 < 0x2000
    · by_cases hn : s.cart.nChr = 0 <;> cases k <;>
        simp [cellByte, ppuRegWrite, Ppu.regWrite, Ppu.write, Cart.ppuRegWrite, Cart.ppuSpaceWrite, Cart.ppuWrite, ha,
          hn, Memory.byte_write, eq_comm]
    · by_cases hb : s.ppu.v.toNat % 0x4000 < 0x3F00 <;> cases k <;>
        simp [cellByte, ppuRegWrite, Ppu.regWrite, Ppu.write, Cart.ppuRegWrite, Cart.ppuSpaceWrite, ha, hb,
          Memory.byte_write, eq_comm]

/-- A strobe write changes the ports alone. -/
theorem padStrobe_frame (v : Byte) (s : State) :
    (padStrobe v s).regs = s.regs ∧ KeptRun s (padStrobe v s) ∧ Clocked s (padStrobe v s)
      ∧ SameBytes s (padStrobe v s) := by
  unfold padStrobe
  split
  · have h := (cycled_latchButtons false s).trans (cycled_latchButtons true _)
    exact ⟨h.regs, ⟨h.cfg, h.trapped, h.iPoll, h.prevCli, h.fault, rfl, h.hung⟩, ⟨h.clocked.forward, h.clocked.count,
      h.clocked.nmi⟩, fun k a => by have b := h.bytes k a; cases k <;> exact b⟩
  · exact ⟨rfl, ⟨rfl, rfl, rfl, rfl, rfl, rfl, fun _ => rfl⟩, .same rfl rfl id, fun k _ => by cases k <;> rfl⟩

/-- What a console write does, range by range (20_memory.md R142, 63_mapper_and_ports.md R622). -/
theorem consoleWrite_cases (addr : Addr) (v : Byte) (s : State) :
    (addr.toNat < 0x2000 ∧ consoleWrite addr v s = { s with ram := s.ram.write (addr.toNat % 0x800) v })
      ∨ (0x2000 ≤ addr.toNat ∧ addr.toNat < 0x4000 ∧ consoleWrite addr v s = ppuRegWrite (addr.toNat % 8) v s)
      ∨ (0x4000 ≤ addr.toNat ∧ addr.toNat < 0x4018 ∧ addr.toNat ≠ 0x4014 ∧ addr.toNat ≠ 0x4016 ∧
          ∃ a, consoleWrite addr v s = { s with apu := a })
      ∨ (addr.toNat = 0x4014 ∧ consoleWrite addr v s = { s with oamDmaPage := some v })
      ∨ (addr.toNat = 0x4016 ∧ consoleWrite addr v s = padStrobe v s)
      ∨ (0x4018 ≤ addr.toNat ∧ addr.toNat < 0x4020 ∧ consoleWrite addr v s = s)
      ∨ (0x4020 ≤ addr.toNat ∧ addr.toNat < 0x6000 ∧
          consoleWrite addr v s = { s with exram := s.exram.write (addr.toNat - 0x4020) v })
      ∨ (0x6000 ≤ addr.toNat ∧ addr.toNat < 0x8000 ∧
          consoleWrite addr v s = { s with sram := s.sram.write (addr.toNat - 0x6000) v })
      ∨ (0x8000 ≤ addr.toNat ∧ consoleWrite addr v s
          = { s with cart := { s.cart with mapper := s.cart.mapper.write s.cfg.mmc1BitOrder addr v } }) := by
  generalize hx : consoleWrite addr v s = x
  unfold consoleWrite at hx
  dsimp only at hx
  split at hx
  · exact .inl ⟨by assumption, hx.symm⟩
  refine .inr ?_
  split at hx
  · exact .inl ⟨by omega, by omega, hx.symm⟩
  refine .inr ?_
  split at hx
  · exact .inl ⟨by omega, by omega, by omega, by omega, _, hx.symm⟩
  split at hx
  · exact .inr (.inl ⟨by omega, hx.symm⟩)
  split at hx
  · exact .inl ⟨by omega, by omega, by omega, by omega, _, hx.symm⟩
  split at hx
  · exact .inr (.inr (.inl ⟨by omega, hx.symm⟩))
  split at hx
  · exact .inl ⟨by omega, by omega, by omega, by omega, _, hx.symm⟩
  refine .inr (.inr (.inr ?_))
  split at hx
  · exact .inl ⟨by omega, by omega, hx.symm⟩
  refine .inr ?_
  unfold mapperCpuWrite at hx
  dsimp only at hx
  split at hx
  · exact .inl ⟨by omega, by omega, hx.symm⟩
  refine .inr ?_
  split at hx
  · exact .inl ⟨by omega, by omega, hx.symm⟩
  · exact .inr ⟨by omega, hx.symm⟩

/-- A console write changes one byte at most. -/
theorem stored_consoleWrite (addr : Addr) (v : Byte) (s : State) (hc : s.cfg.busMode = .console) :
    Stored addr v s (consoleWrite addr v s) := by
  have none_of (t : State) (hs : storeTarget s addr = none) (h : SameBytes s t) : Stored addr v s t := by
    intro k a
    simp only [hs, reduceCtorEq, if_false]
    exact h k a
  rcases consoleWrite_cases addr v s with ⟨h, e⟩ | ⟨h, h', e⟩ | ⟨h, h', -, -, a, e⟩ | ⟨h, e⟩ | ⟨h, e⟩ | ⟨h, h', e⟩ |
    ⟨h, h', e⟩ | ⟨h, h', e⟩ | ⟨h, e⟩ <;> rw [e]
  · intro k a
    cases k <;> simp [h, storeTarget, hc, cellByte, Memory.byte_write, eq_comm]
  · exact stored_ppuRegWrite addr v s hc (by omega) h'
  · refine none_of _ ?_ fun k _ => by cases k <;> rfl
    simp only [storeTarget, hc, show ¬addr.toNat < 0x2000 by omega, show ¬addr.toNat < 0x4000 by omega,
      show addr.toNat < 0x4020 by omega, if_false, if_true]
  · refine none_of _ ?_ fun k _ => by cases k <;> rfl
    simp only [storeTarget, hc, show ¬addr.toNat < 0x2000 by omega, show ¬addr.toNat < 0x4000 by omega,
      show addr.toNat < 0x4020 by omega, if_false, if_true]
  · refine none_of _ ?_ (padStrobe_frame v s).2.2.2
    simp only [storeTarget, hc, show ¬addr.toNat < 0x2000 by omega, show ¬addr.toNat < 0x4000 by omega,
      show addr.toNat < 0x4020 by omega, if_false, if_true]
  · refine none_of _ ?_ fun k _ => rfl
    simp only [storeTarget, hc, show ¬addr.toNat < 0x2000 by omega, show ¬addr.toNat < 0x4000 by omega,
      show addr.toNat < 0x4020 by omega, if_false, if_true]
  · intro k a
    simp only [storeTarget, hc, show ¬addr.toNat < 0x2000 by omega, show ¬addr.toNat < 0x4000 by omega,
      show ¬addr.toNat < 0x4020 by omega, h', if_false, if_true]
    cases k <;> simp [cellByte, Memory.byte_write, eq_comm]
  · intro k a
    simp only [storeTarget, hc, show ¬addr.toNat < 0x2000 by omega, show ¬addr.toNat < 0x4000 by omega,
      show ¬addr.toNat < 0x4020 by omega, show ¬addr.toNat < 0x6000 by omega, h', if_false, if_true]
    cases k <;> simp [cellByte, Memory.byte_write, eq_comm]
  · refine none_of _ ?_ fun k _ => by cases k <;> rfl
    simp only [storeTarget, hc, show ¬addr.toNat < 0x2000 by omega, show ¬addr.toNat < 0x4000 by omega,
      show ¬addr.toNat < 0x4020 by omega, show ¬addr.toNat < 0x6000 by omega, show ¬addr.toNat < 0x8000 by omega,
      if_false]

/-- A bus write changes one byte at most. -/
theorem stored_busWrite (addr : Addr) (v : Byte) (s : State) : Stored addr v s (busWrite addr v s) := by
  unfold busWrite
  split
  next hc => exact stored_consoleWrite addr v s hc
  next hf =>
    intro k a
    cases k <;> simp [storeTarget, hf, cellByte, Memory.byte_write, eq_comm]

/-- A bus write keeps the CPU's registers and run state, and moves no clock. -/
theorem busWrite_run (addr : Addr) (v : Byte) (s : State) :
    (busWrite addr v s).regs = s.regs ∧ KeptRun s (busWrite addr v s) ∧ Clocked s (busWrite addr v s) := by
  unfold busWrite
  split
  · rcases consoleWrite_cases addr v s with ⟨-, e⟩ | ⟨-, -, e⟩ | ⟨-, -, -, -, a, e⟩ | ⟨-, e⟩ | ⟨-, e⟩ | ⟨-, -, e⟩ |
      ⟨-, -, e⟩ | ⟨-, -, e⟩ | ⟨-, e⟩ <;> rw [e]
    · exact ⟨rfl, ⟨rfl, rfl, rfl, rfl, rfl, rfl, fun _ => rfl⟩, .same rfl rfl id⟩
    · exact ⟨rfl, ⟨rfl, rfl, rfl, rfl, rfl, rfl, fun _ => rfl⟩, .same rfl rfl fun h => by simp [ppuRegWrite, h]⟩
    · exact ⟨rfl, ⟨rfl, rfl, rfl, rfl, rfl, rfl, fun _ => rfl⟩, .same rfl rfl id⟩
    · exact ⟨rfl, ⟨rfl, rfl, rfl, rfl, rfl, rfl, fun _ => rfl⟩, .same rfl rfl id⟩
    · exact ⟨(padStrobe_frame v s).1, (padStrobe_frame v s).2.1, (padStrobe_frame v s).2.2.1⟩
    · exact ⟨rfl, ⟨rfl, rfl, rfl, rfl, rfl, rfl, fun _ => rfl⟩, .same rfl rfl id⟩
    · exact ⟨rfl, ⟨rfl, rfl, rfl, rfl, rfl, rfl, fun _ => rfl⟩, .same rfl rfl id⟩
    · exact ⟨rfl, ⟨rfl, rfl, rfl, rfl, rfl, rfl, fun _ => rfl⟩, .same rfl rfl id⟩
    · exact ⟨rfl, ⟨rfl, rfl, rfl, rfl, rfl, rfl, fun _ => rfl⟩, .same rfl rfl id⟩
  · exact ⟨rfl, ⟨rfl, rfl, rfl, rfl, rfl, rfl, fun _ => rfl⟩, .same rfl rfl id⟩

/-- A bus write at an address with no register keeps the control registers. -/
theorem busWrite_control (addr : Addr) (v : Byte) (s : State) (h : isPlainAddress s addr = true) :
    KeptControl s (busWrite addr v s) := by
  unfold busWrite
  split
  next hc =>
    simp only [isPlainAddress, hc, Bool.or_eq_true, Bool.and_eq_true, decide_eq_true_eq] at h
    rcases consoleWrite_cases addr v s with ⟨-, e⟩ | ⟨_, _, e⟩ | ⟨_, _, -, -, a, e⟩ | ⟨_, e⟩ | ⟨_, e⟩ | ⟨-, -, e⟩ |
      ⟨-, -, e⟩ | ⟨-, -, e⟩ | ⟨_, e⟩ <;>
      first
      | omega
      | (rw [e]; exact ⟨rfl, rfl, rfl, rfl, rfl, rfl, rfl, rfl, rfl, rfl, rfl, rfl, rfl, rfl, fun _ => rfl⟩)
  next => exact ⟨rfl, rfl, rfl, rfl, rfl, rfl, rfl, rfl, rfl, rfl, rfl, rfl, rfl, rfl, fun _ => rfl⟩

/-- One cycle that writes: the byte is stored in the state after the stalls, and the run state is kept. -/
theorem stored_memWrite (addr : Addr) (v : Byte) (s : State) :
    (memWrite addr v s).regs = s.regs ∧ Stored addr v (drainStall s) (memWrite addr v s)
      ∧ SameBytes s (drainStall s) ∧ StoreFrame addr s (memWrite addr v s) := by
  have hd := cycled_drainStall s
  have hw := busWrite_run addr v (drainStall s)
  have he := cycled_endCycle (busWrite addr v (drainStall s))
  refine ⟨he.regs.trans (hw.1.trans hd.regs), fun k a => ?_, hd.bytes, hd.run.trans (hw.2.1.trans he.run),
    hd.clocked.trans (hw.2.2.trans he.clocked), fun hp => ?_⟩
  · exact (he.bytes k a).trans (stored_busWrite addr v _ k a)
  · refine hd.control.trans ((busWrite_control addr v _ ?_).trans he.control)
    simpa only [isPlainAddress, hd.cfg] using hp

/-! ### The stack -/

theorem push_regs (v : Byte) (s : State) : (push v s).regs = { s.regs with s := s.regs.s - 1 } := by
  simp [push, (stored_memWrite _ _ _).1]

theorem cycled_pull (s : State) : Cycled (setRegs (fun r => { r with s := r.s + 1 }) s) (pull s).2 :=
  cycled_memRead _ _

theorem pull_regs (s : State) : (pull s).2.regs = { s.regs with s := s.regs.s + 1 } := (cycled_pull s).regs

end Sys2Proof.Machine
end

