-- ==== Sys2Proof/Laws/Driver.lean ====
section
/-!
SUPPORT. What the loop of the driver's entry points and of a run gives: the first step boundary that stops it.
-/

namespace Sys2Proof.Machine

/-- The loop from the boundary after `m` steps gives the first one from there on that stops it, if it lies within `n`
steps. -/
theorem stepsTo_from (stop : Nat → State → Bool) (s : State) (q : Nat × State) (n m : Nat) :
    stepsTo stop n (cyclesUsed m s) (afterSteps m s) = some q ↔
      ∃ k, m ≤ k ∧ k ≤ m + n ∧ q = (cyclesUsed k s, afterSteps k s) ∧ stop (cyclesUsed k s) (afterSteps k s) = true ∧
        (afterSteps k s).hung = false ∧
        ∀ j, m ≤ j → j < k → stop (cyclesUsed j s) (afterSteps j s) = false ∧ (afterSteps j s).hung = false := by
  induction n generalizing m with
  | zero =>
    have here (k : Nat) (h : m ≤ k) (h' : k ≤ m + 0) : k = m := by omega
    unfold stepsTo
    constructor
    · intro h
      split at h
      · cases h
      next hung =>
        split at h
        next stops => exact ⟨m, le_rfl, le_rfl, by simpa using h.symm, stops, by simpa using hung, by omega⟩
        · cases h
    · rintro ⟨k, h1, h2, rfl, stops, hung, -⟩
      cases here k h1 h2
      simp [stops, hung]
  | succ n ih =>
    unfold stepsTo
    constructor
    · intro h
      split at h
      · cases h
      next hung =>
        split at h
        next stops => exact ⟨m, le_rfl, by omega, by simpa using h.symm, stops, by simpa using hung, by omega⟩
        next goes =>
          obtain ⟨k, h1, h2, e, stops, hk, before⟩ := (ih (m + 1)).mp h
          refine ⟨k, by omega, by omega, e, stops, hk, fun j h3 h4 => ?_⟩
          rcases Nat.eq_or_lt_of_le h3 with rfl | h3
          · exact ⟨by simpa using goes, by simpa using hung⟩
          · exact before j h3 h4
    · rintro ⟨k, h1, h2, rfl, stops, hung, before⟩
      rcases Nat.eq_or_lt_of_le h1 with rfl | h1
      · simp [stops, hung]
      · obtain ⟨goes, h⟩ := before m le_rfl h1
        simp only [goes, h, Bool.false_eq_true, if_false]
        exact (ih (m + 1)).mpr ⟨k, by omega, by omega, rfl, stops, hung, fun j h3 => before j (by omega)⟩

/-- The loop gives the first boundary that stops it, if it lies within `n` steps. -/
theorem stepsTo_some (stop : Nat → State → Bool) (s : State) (q : Nat × State) (n : Nat) :
    stepsTo stop n 0 s = some q ↔ ∃ k, k ≤ n ∧ q = (cyclesUsed k s, afterSteps k s) ∧
      FirstBoundary (fun used t => stop used t = true) k s := by
  have h := stepsTo_from stop s q n 0
  simp only [cyclesUsed, afterSteps] at h
  rw [h]
  constructor
  · rintro ⟨k, -, h2, e, stops, hung, before⟩
    exact ⟨k, by omega, e, stops, hung, fun j h3 => by simpa using before j (by omega) h3⟩
  · rintro ⟨k, h2, e, stops, hung, before⟩
    exact ⟨k, by omega, by omega, e, stops, hung, fun j _ h3 => by simpa using before j h3⟩

end Sys2Proof.Machine
end

