-- ==== Sys2Proof/Laws/Operands.lean ====
section
/-!
SUPPORT. What the operand forms and the access classes do: one lemma for each, which the statements about single
instructions cite.
-/

namespace Sys2Proof.Machine

/-! ### Address cycles -/

theorem cycled_indexedAddress (cls : AccessClass) (base : Addr) (index : Byte) (s : State) :
    Cycled s (indexedAddress cls base index s).2 := by
  cases cls
  · simp only [indexedAddress]
    split
    · exact cycled_tick s
    · exact .refl s
  · exact cycled_tick s
  · exact cycled_tick s

theorem cycled_zpPointer (p : Byte) (s : State) : Cycled s (zpPointer p s).2 :=
  (cycled_memRead _ s).trans (cycled_memRead _ _)

theorem cycled_effectiveAddress (cls : AccessClass) (m : EaMode) (s : State) :
    Cycled s (effectiveAddress cls m s).2 := by
  cases m
  · exact .refl s
  · exact cycled_tick s
  · exact cycled_tick s
  · exact .refl s
  · exact cycled_indexedAddress _ _ _ s
  · exact cycled_indexedAddress _ _ _ s
  · exact (cycled_tick s).trans (cycled_zpPointer _ _)
  · exact (cycled_zpPointer _ s).trans (cycled_indexedAddress _ _ _ _)

theorem cycled_readOperand (m : EaMode) (s : State) : Cycled s (readOperand m s).2 :=
  (cycled_effectiveAddress .read m s).trans (cycled_memRead _ _)

theorem cycled_indirectTarget (w : Addr) (s : State) : Cycled s (indirectTarget w s).2 :=
  (cycled_memRead w s).trans (cycled_memRead _ _)

/-! ### Access classes -/

theorem runImmediate_spec (op : Byte → Regs → Regs) (m : Byte) (s : State) :
    runImmediate op m s = .next { s with regs := op m s.regs } ∧ Undisturbed s { s with regs := op m s.regs } :=
  ⟨rfl, undisturbed_setRegs (op m) s⟩

theorem runRead_spec (op : Byte → Regs → Regs) (m : EaMode) (s : State) :
    let r := readOperand m s
    let t := { r.2 with regs := op r.1 s.regs }
    runRead op m s = .next t ∧ Undisturbed s t := by
  intro r t
  have h := cycled_readOperand m s
  have e : setRegs (op r.1) r.2 = t := by
    simp only [setRegs, r, t, h.regs]
  exact ⟨congrArg _ e, e ▸ h.undisturbed.trans (undisturbed_setRegs (op r.1) r.2)⟩

theorem runImplied_spec (op : Regs → Regs) (s : State) :
    let t := { tick s with regs := op s.regs }
    runImplied op s = .next t ∧ Undisturbed s t := by
  intro t
  have e : setRegs op (tick s) = t := by simp only [setRegs, t, (cycled_tick s).regs]
  exact ⟨congrArg _ e, e ▸ (cycled_tick s).undisturbed.trans (undisturbed_setRegs op _)⟩

theorem runAccumulator_spec (op : Byte → Regs → Byte × Regs) (s : State) :
    let t := { tick s with regs := { (op s.regs.a s.regs).2 with a := (op s.regs.a s.regs).1 } }
    runAccumulator op s = .next t ∧ Undisturbed s t :=
  runImplied_spec (fun r => { (op r.a r).2 with a := (op r.a r).1 }) s

theorem StoreFrame.of_cycled {addr : Addr} {s t u : State} (h : Cycled s t) (k : StoreFrame addr t u) :
    StoreFrame addr s u := by
  refine ⟨h.run.trans k.1, h.clocked.trans k.2.1, fun p => h.control.trans (k.2.2 ?_)⟩
  simpa only [isPlainAddress, h.cfg] using p

theorem runWrite_spec (value : Regs → Byte) (m : EaMode) (s : State) :
    let ea := effectiveAddress .write m s
    let d := drainStall ea.2
    let t := endCycle (busWrite ea.1 (value s.regs) d)
    runWrite value m s = .next t ∧ t.regs = s.regs ∧ Stored ea.1 (value s.regs) d t ∧ SameBytes s d
      ∧ StoreFrame ea.1 s t := by
  intro ea d t
  have h := cycled_effectiveAddress .write m s
  have w := stored_memWrite ea.1 (value s.regs) ea.2
  refine ⟨?_, w.1.trans h.regs, w.2.1, h.bytes.trans w.2.2.1, .of_cycled h w.2.2.2⟩
  simp only [runWrite, h.regs]
  rfl

theorem runModify_spec (op : Byte → Regs → Byte × Regs) (m : EaMode) (s : State) :
    let ea := effectiveAddress .rmw m s
    let r := busRead ea.1 (drainStall ea.2)
    let u := drainStall { tick (endCycle r.2) with regs := (op r.1 s.regs).2 }
    let t := endCycle (busWrite ea.1 (op r.1 s.regs).1 u)
    runModify op m s = .next t ∧ t.regs = (op r.1 s.regs).2 ∧ Stored ea.1 (op r.1 s.regs).1 u t ∧ SameBytes s u
      ∧ StoreFrame ea.1 s t := by
  intro ea r u t
  have h : Cycled s (tick (endCycle r.2)) :=
    ((cycled_effectiveAddress .rmw m s).trans (cycled_memRead ea.1 ea.2)).trans (cycled_tick (endCycle r.2))
  have w := stored_memWrite ea.1 (op r.1 s.regs).1 (setRegs (fun _ => (op r.1 s.regs).2) (tick (endCycle r.2)))
  have k := h.undisturbed.trans (undisturbed_setRegs (fun _ => (op r.1 s.regs).2) (tick (endCycle r.2)))
  have kr : KeptRun s (setRegs (fun _ => (op r.1 s.regs).2) (tick (endCycle r.2))) :=
    ⟨h.cfg, h.trapped, h.iPoll, h.prevCli, h.fault, h.host, h.hung⟩
  refine ⟨?_, w.1, w.2.1, k.bytes.trans w.2.2.1, kr.trans w.2.2.2.1, k.clocked.trans w.2.2.2.2.1, fun p => ?_⟩
  · have e : (tick (memRead ea.1 ea.2).2).regs = s.regs := h.regs
    simp only [runModify, modifyMemory, ea] at e ⊢
    rw [e]
    rfl
  · refine k.control.trans (w.2.2.2.2.2 ?_)
    simpa only [isPlainAddress, setRegs_cfg, h.cfg] using p

/-- A taken branch moves PC and nothing else. -/
theorem takeBranch_spec (off : Byte) (s : State) :
    (takeBranch off s).regs = { s.regs with pc := branchTarget s.regs.pc off } ∧ Undisturbed s (takeBranch off s) := by
  unfold takeBranch
  dsimp only
  split
  · have h := (cycled_tick s).trans (cycled_tick (tick s))
    exact ⟨by simp [setPc, h.regs], h.undisturbed.trans (undisturbed_setRegs _ _)⟩
  · exact ⟨by simp [setPc, (cycled_tick s).regs], (cycled_tick s).undisturbed.trans (undisturbed_setRegs _ _)⟩

end Sys2Proof.Machine
end

