-- ==== Sys2Proof/Laws/PerInstr.lean ====
section
/-!
SUPPORT. Per-instruction facts of the syntax and the encoding, one lemma per constructor of Instr.
-/

namespace Sys2Proof.Laws.EncodedSize

/-- The instruction is well formed, its encoding starts with its opcode byte, and is 1 to 3 bytes long, as its size
says (30_encoding.md R200, R203). -/
def Statement (i : Instr) : Prop :=
  i.wellFormed = true ∧ (encode i).head? = some i.opcode ∧ (encode i).length = i.size ∧ 1 ≤ i.size ∧ i.size ≤ 3

theorem oraIzx (zp : Byte) : Statement (.oraIzx zp) :=
  ⟨rfl, rfl, rfl, Nat.le_of_ble_eq_true rfl, Nat.le_of_ble_eq_true rfl⟩
theorem sloIzx (zp : Byte) : Statement (.sloIzx zp) :=
  ⟨rfl, rfl, rfl, Nat.le_of_ble_eq_true rfl, Nat.le_of_ble_eq_true rfl⟩
theorem nopZp04 (zp : Byte) : Statement (.nopZp04 zp) :=
  ⟨rfl, rfl, rfl, Nat.le_of_ble_eq_true rfl, Nat.le_of_ble_eq_true rfl⟩
theorem oraZp (zp : Byte) : Statement (.oraZp zp) :=
  ⟨rfl, rfl, rfl, Nat.le_of_ble_eq_true rfl, Nat.le_of_ble_eq_true rfl⟩
theorem aslZp (zp : Byte) : Statement (.aslZp zp) :=
  ⟨rfl, rfl, rfl, Nat.le_of_ble_eq_true rfl, Nat.le_of_ble_eq_true rfl⟩
theorem sloZp (zp : Byte) : Statement (.sloZp zp) :=
  ⟨rfl, rfl, rfl, Nat.le_of_ble_eq_true rfl, Nat.le_of_ble_eq_true rfl⟩
theorem oraImm (imm : Byte) : Statement (.oraImm imm) :=
  ⟨rfl, rfl, rfl, Nat.le_of_ble_eq_true rfl, Nat.le_of_ble_eq_true rfl⟩
theorem ancImm0B (imm : Byte) : Statement (.ancImm0B imm) :=
  ⟨rfl, rfl, rfl, Nat.le_of_ble_eq_true rfl, Nat.le_of_ble_eq_true rfl⟩
theorem nopAbs (addr : Addr) : Statement (.nopAbs addr) :=
  ⟨rfl, rfl, rfl, Nat.le_of_ble_eq_true rfl, Nat.le_of_ble_eq_true rfl⟩
theorem oraAbs (addr : Addr) : Statement (.oraAbs addr) :=
  ⟨rfl, rfl, rfl, Nat.le_of_ble_eq_true rfl, Nat.le_of_ble_eq_true rfl⟩
theorem aslAbs (addr : Addr) : Statement (.aslAbs addr) :=
  ⟨rfl, rfl, rfl, Nat.le_of_ble_eq_true rfl, Nat.le_of_ble_eq_true rfl⟩
theorem sloAbs (addr : Addr) : Statement (.sloAbs addr) :=
  ⟨rfl, rfl, rfl, Nat.le_of_ble_eq_true rfl, Nat.le_of_ble_eq_true rfl⟩
theorem bplRel (off : Byte) : Statement (.bplRel off) :=
  ⟨rfl, rfl, rfl, Nat.le_of_ble_eq_true rfl, Nat.le_of_ble_eq_true rfl⟩
theorem oraIzy (zp : Byte) : Statement (.oraIzy zp) :=
  ⟨rfl, rfl, rfl, Nat.le_of_ble_eq_true rfl, Nat.le_of_ble_eq_true rfl⟩
theorem sloIzy (zp : Byte) : Statement (.sloIzy zp) :=
  ⟨rfl, rfl, rfl, Nat.le_of_ble_eq_true rfl, Nat.le_of_ble_eq_true rfl⟩
theorem nopZpx14 (zp : Byte) : Statement (.nopZpx14 zp) :=
  ⟨rfl, rfl, rfl, Nat.le_of_ble_eq_true rfl, Nat.le_of_ble_eq_true rfl⟩
theorem oraZpx (zp : Byte) : Statement (.oraZpx zp) :=
  ⟨rfl, rfl, rfl, Nat.le_of_ble_eq_true rfl, Nat.le_of_ble_eq_true rfl⟩
theorem aslZpx (zp : Byte) : Statement (.aslZpx zp) :=
  ⟨rfl, rfl, rfl, Nat.le_of_ble_eq_true rfl, Nat.le_of_ble_eq_true rfl⟩
theorem sloZpx (zp : Byte) : Statement (.sloZpx zp) :=
  ⟨rfl, rfl, rfl, Nat.le_of_ble_eq_true rfl, Nat.le_of_ble_eq_true rfl⟩
theorem oraAby (addr : Addr) : Statement (.oraAby addr) :=
  ⟨rfl, rfl, rfl, Nat.le_of_ble_eq_true rfl, Nat.le_of_ble_eq_true rfl⟩
theorem sloAby (addr : Addr) : Statement (.sloAby addr) :=
  ⟨rfl, rfl, rfl, Nat.le_of_ble_eq_true rfl, Nat.le_of_ble_eq_true rfl⟩
theorem nopAbx1C (addr : Addr) : Statement (.nopAbx1C addr) :=
  ⟨rfl, rfl, rfl, Nat.le_of_ble_eq_true rfl, Nat.le_of_ble_eq_true rfl⟩
theorem oraAbx (addr : Addr) : Statement (.oraAbx addr) :=
  ⟨rfl, rfl, rfl, Nat.le_of_ble_eq_true rfl, Nat.le_of_ble_eq_true rfl⟩
theorem aslAbx (addr : Addr) : Statement (.aslAbx addr) :=
  ⟨rfl, rfl, rfl, Nat.le_of_ble_eq_true rfl, Nat.le_of_ble_eq_true rfl⟩
theorem sloAbx (addr : Addr) : Statement (.sloAbx addr) :=
  ⟨rfl, rfl, rfl, Nat.le_of_ble_eq_true rfl, Nat.le_of_ble_eq_true rfl⟩
theorem jsrAbs (addr : Addr) : Statement (.jsrAbs addr) :=
  ⟨rfl, rfl, rfl, Nat.le_of_ble_eq_true rfl, Nat.le_of_ble_eq_true rfl⟩
theorem andIzx (zp : Byte) : Statement (.andIzx zp) :=
  ⟨rfl, rfl, rfl, Nat.le_of_ble_eq_true rfl, Nat.le_of_ble_eq_true rfl⟩
theorem rlaIzx (zp : Byte) : Statement (.rlaIzx zp) :=
  ⟨rfl, rfl, rfl, Nat.le_of_ble_eq_true rfl, Nat.le_of_ble_eq_true rfl⟩
theorem bitZp (zp : Byte) : Statement (.bitZp zp) :=
  ⟨rfl, rfl, rfl, Nat.le_of_ble_eq_true rfl, Nat.le_of_ble_eq_true rfl⟩
theorem andZp (zp : Byte) : Statement (.andZp zp) :=
  ⟨rfl, rfl, rfl, Nat.le_of_ble_eq_true rfl, Nat.le_of_ble_eq_true rfl⟩
theorem rolZp (zp : Byte) : Statement (.rolZp zp) :=
  ⟨rfl, rfl, rfl, Nat.le_of_ble_eq_true rfl, Nat.le_of_ble_eq_true rfl⟩
theorem rlaZp (zp : Byte) : Statement (.rlaZp zp) :=
  ⟨rfl, rfl, rfl, Nat.le_of_ble_eq_true rfl, Nat.le_of_ble_eq_true rfl⟩
theorem andImm (imm : Byte) : Statement (.andImm imm) :=
  ⟨rfl, rfl, rfl, Nat.le_of_ble_eq_true rfl, Nat.le_of_ble_eq_true rfl⟩
theorem ancImm2B (imm : Byte) : Statement (.ancImm2B imm) :=
  ⟨rfl, rfl, rfl, Nat.le_of_ble_eq_true rfl, Nat.le_of_ble_eq_true rfl⟩
theorem bitAbs (addr : Addr) : Statement (.bitAbs addr) :=
  ⟨rfl, rfl, rfl, Nat.le_of_ble_eq_true rfl, Nat.le_of_ble_eq_true rfl⟩
theorem andAbs (addr : Addr) : Statement (.andAbs addr) :=
  ⟨rfl, rfl, rfl, Nat.le_of_ble_eq_true rfl, Nat.le_of_ble_eq_true rfl⟩
theorem rolAbs (addr : Addr) : Statement (.rolAbs addr) :=
  ⟨rfl, rfl, rfl, Nat.le_of_ble_eq_true rfl, Nat.le_of_ble_eq_true rfl⟩
theorem rlaAbs (addr : Addr) : Statement (.rlaAbs addr) :=
  ⟨rfl, rfl, rfl, Nat.le_of_ble_eq_true rfl, Nat.le_of_ble_eq_true rfl⟩
theorem bmiRel (off : Byte) : Statement (.bmiRel off) :=
  ⟨rfl, rfl, rfl, Nat.le_of_ble_eq_true rfl, Nat.le_of_ble_eq_true rfl⟩
theorem andIzy (zp : Byte) : Statement (.andIzy zp) :=
  ⟨rfl, rfl, rfl, Nat.le_of_ble_eq_true rfl, Nat.le_of_ble_eq_true rfl⟩
theorem rlaIzy (zp : Byte) : Statement (.rlaIzy zp) :=
  ⟨rfl, rfl, rfl, Nat.le_of_ble_eq_true rfl, Nat.le_of_ble_eq_true rfl⟩
theorem nopZpx34 (zp : Byte) : Statement (.nopZpx34 zp) :=
  ⟨rfl, rfl, rfl, Nat.le_of_ble_eq_true rfl, Nat.le_of_ble_eq_true rfl⟩
theorem andZpx (zp : Byte) : Statement (.andZpx zp) :=
  ⟨rfl, rfl, rfl, Nat.le_of_ble_eq_true rfl, Nat.le_of_ble_eq_true rfl⟩
theorem rolZpx (zp : Byte) : Statement (.rolZpx zp) :=
  ⟨rfl, rfl, rfl, Nat.le_of_ble_eq_true rfl, Nat.le_of_ble_eq_true rfl⟩
theorem rlaZpx (zp : Byte) : Statement (.rlaZpx zp) :=
  ⟨rfl, rfl, rfl, Nat.le_of_ble_eq_true rfl, Nat.le_of_ble_eq_true rfl⟩
theorem andAby (addr : Addr) : Statement (.andAby addr) :=
  ⟨rfl, rfl, rfl, Nat.le_of_ble_eq_true rfl, Nat.le_of_ble_eq_true rfl⟩
theorem rlaAby (addr : Addr) : Statement (.rlaAby addr) :=
  ⟨rfl, rfl, rfl, Nat.le_of_ble_eq_true rfl, Nat.le_of_ble_eq_true rfl⟩
theorem nopAbx3C (addr : Addr) : Statement (.nopAbx3C addr) :=
  ⟨rfl, rfl, rfl, Nat.le_of_ble_eq_true rfl, Nat.le_of_ble_eq_true rfl⟩
theorem andAbx (addr : Addr) : Statement (.andAbx addr) :=
  ⟨rfl, rfl, rfl, Nat.le_of_ble_eq_true rfl, Nat.le_of_ble_eq_true rfl⟩
theorem rolAbx (addr : Addr) : Statement (.rolAbx addr) :=
  ⟨rfl, rfl, rfl, Nat.le_of_ble_eq_true rfl, Nat.le_of_ble_eq_true rfl⟩
theorem rlaAbx (addr : Addr) : Statement (.rlaAbx addr) :=
  ⟨rfl, rfl, rfl, Nat.le_of_ble_eq_true rfl, Nat.le_of_ble_eq_true rfl⟩
theorem eorIzx (zp : Byte) : Statement (.eorIzx zp) :=
  ⟨rfl, rfl, rfl, Nat.le_of_ble_eq_true rfl, Nat.le_of_ble_eq_true rfl⟩
theorem sreIzx (zp : Byte) : Statement (.sreIzx zp) :=
  ⟨rfl, rfl, rfl, Nat.le_of_ble_eq_true rfl, Nat.le_of_ble_eq_true rfl⟩
theorem nopZp44 (zp : Byte) : Statement (.nopZp44 zp) :=
  ⟨rfl, rfl, rfl, Nat.le_of_ble_eq_true rfl, Nat.le_of_ble_eq_true rfl⟩
theorem eorZp (zp : Byte) : Statement (.eorZp zp) :=
  ⟨rfl, rfl, rfl, Nat.le_of_ble_eq_true rfl, Nat.le_of_ble_eq_true rfl⟩
theorem lsrZp (zp : Byte) : Statement (.lsrZp zp) :=
  ⟨rfl, rfl, rfl, Nat.le_of_ble_eq_true rfl, Nat.le_of_ble_eq_true rfl⟩
theorem sreZp (zp : Byte) : Statement (.sreZp zp) :=
  ⟨rfl, rfl, rfl, Nat.le_of_ble_eq_true rfl, Nat.le_of_ble_eq_true rfl⟩
theorem eorImm (imm : Byte) : Statement (.eorImm imm) :=
  ⟨rfl, rfl, rfl, Nat.le_of_ble_eq_true rfl, Nat.le_of_ble_eq_true rfl⟩
theorem alrImm (imm : Byte) : Statement (.alrImm imm) :=
  ⟨rfl, rfl, rfl, Nat.le_of_ble_eq_true rfl, Nat.le_of_ble_eq_true rfl⟩
theorem jmpAbs (addr : Addr) : Statement (.jmpAbs addr) :=
  ⟨rfl, rfl, rfl, Nat.le_of_ble_eq_true rfl, Nat.le_of_ble_eq_true rfl⟩
theorem eorAbs (addr : Addr) : Statement (.eorAbs addr) :=
  ⟨rfl, rfl, rfl, Nat.le_of_ble_eq_true rfl, Nat.le_of_ble_eq_true rfl⟩
theorem lsrAbs (addr : Addr) : Statement (.lsrAbs addr) :=
  ⟨rfl, rfl, rfl, Nat.le_of_ble_eq_true rfl, Nat.le_of_ble_eq_true rfl⟩
theorem sreAbs (addr : Addr) : Statement (.sreAbs addr) :=
  ⟨rfl, rfl, rfl, Nat.le_of_ble_eq_true rfl, Nat.le_of_ble_eq_true rfl⟩
theorem bvcRel (off : Byte) : Statement (.bvcRel off) :=
  ⟨rfl, rfl, rfl, Nat.le_of_ble_eq_true rfl, Nat.le_of_ble_eq_true rfl⟩
theorem eorIzy (zp : Byte) : Statement (.eorIzy zp) :=
  ⟨rfl, rfl, rfl, Nat.le_of_ble_eq_true rfl, Nat.le_of_ble_eq_true rfl⟩
theorem sreIzy (zp : Byte) : Statement (.sreIzy zp) :=
  ⟨rfl, rfl, rfl, Nat.le_of_ble_eq_true rfl, Nat.le_of_ble_eq_true rfl⟩
theorem nopZpx54 (zp : Byte) : Statement (.nopZpx54 zp) :=
  ⟨rfl, rfl, rfl, Nat.le_of_ble_eq_true rfl, Nat.le_of_ble_eq_true rfl⟩
theorem eorZpx (zp : Byte) : Statement (.eorZpx zp) :=
  ⟨rfl, rfl, rfl, Nat.le_of_ble_eq_true rfl, Nat.le_of_ble_eq_true rfl⟩
theorem lsrZpx (zp : Byte) : Statement (.lsrZpx zp) :=
  ⟨rfl, rfl, rfl, Nat.le_of_ble_eq_true rfl, Nat.le_of_ble_eq_true rfl⟩
theorem sreZpx (zp : Byte) : Statement (.sreZpx zp) :=
  ⟨rfl, rfl, rfl, Nat.le_of_ble_eq_true rfl, Nat.le_of_ble_eq_true rfl⟩
theorem eorAby (addr : Addr) : Statement (.eorAby addr) :=
  ⟨rfl, rfl, rfl, Nat.le_of_ble_eq_true rfl, Nat.le_of_ble_eq_true rfl⟩
theorem sreAby (addr : Addr) : Statement (.sreAby addr) :=
  ⟨rfl, rfl, rfl, Nat.le_of_ble_eq_true rfl, Nat.le_of_ble_eq_true rfl⟩
theorem nopAbx5C (addr : Addr) : Statement (.nopAbx5C addr) :=
  ⟨rfl, rfl, rfl, Nat.le_of_ble_eq_true rfl, Nat.le_of_ble_eq_true rfl⟩
theorem eorAbx (addr : Addr) : Statement (.eorAbx addr) :=
  ⟨rfl, rfl, rfl, Nat.le_of_ble_eq_true rfl, Nat.le_of_ble_eq_true rfl⟩
theorem lsrAbx (addr : Addr) : Statement (.lsrAbx addr) :=
  ⟨rfl, rfl, rfl, Nat.le_of_ble_eq_true rfl, Nat.le_of_ble_eq_true rfl⟩
theorem sreAbx (addr : Addr) : Statement (.sreAbx addr) :=
  ⟨rfl, rfl, rfl, Nat.le_of_ble_eq_true rfl, Nat.le_of_ble_eq_true rfl⟩
theorem adcIzx (zp : Byte) : Statement (.adcIzx zp) :=
  ⟨rfl, rfl, rfl, Nat.le_of_ble_eq_true rfl, Nat.le_of_ble_eq_true rfl⟩
theorem rraIzx (zp : Byte) : Statement (.rraIzx zp) :=
  ⟨rfl, rfl, rfl, Nat.le_of_ble_eq_true rfl, Nat.le_of_ble_eq_true rfl⟩
theorem nopZp64 (zp : Byte) : Statement (.nopZp64 zp) :=
  ⟨rfl, rfl, rfl, Nat.le_of_ble_eq_true rfl, Nat.le_of_ble_eq_true rfl⟩
theorem adcZp (zp : Byte) : Statement (.adcZp zp) :=
  ⟨rfl, rfl, rfl, Nat.le_of_ble_eq_true rfl, Nat.le_of_ble_eq_true rfl⟩
theorem rorZp (zp : Byte) : Statement (.rorZp zp) :=
  ⟨rfl, rfl, rfl, Nat.le_of_ble_eq_true rfl, Nat.le_of_ble_eq_true rfl⟩
theorem rraZp (zp : Byte) : Statement (.rraZp zp) :=
  ⟨rfl, rfl, rfl, Nat.le_of_ble_eq_true rfl, Nat.le_of_ble_eq_true rfl⟩
theorem adcImm (imm : Byte) : Statement (.adcImm imm) :=
  ⟨rfl, rfl, rfl, Nat.le_of_ble_eq_true rfl, Nat.le_of_ble_eq_true rfl⟩
theorem arrImm (imm : Byte) : Statement (.arrImm imm) :=
  ⟨rfl, rfl, rfl, Nat.le_of_ble_eq_true rfl, Nat.le_of_ble_eq_true rfl⟩
theorem jmpInd (addr : Addr) : Statement (.jmpInd addr) :=
  ⟨rfl, rfl, rfl, Nat.le_of_ble_eq_true rfl, Nat.le_of_ble_eq_true rfl⟩
theorem adcAbs (addr : Addr) : Statement (.adcAbs addr) :=
  ⟨rfl, rfl, rfl, Nat.le_of_ble_eq_true rfl, Nat.le_of_ble_eq_true rfl⟩
theorem rorAbs (addr : Addr) : Statement (.rorAbs addr) :=
  ⟨rfl, rfl, rfl, Nat.le_of_ble_eq_true rfl, Nat.le_of_ble_eq_true rfl⟩
theorem rraAbs (addr : Addr) : Statement (.rraAbs addr) :=
  ⟨rfl, rfl, rfl, Nat.le_of_ble_eq_true rfl, Nat.le_of_ble_eq_true rfl⟩
theorem bvsRel (off : Byte) : Statement (.bvsRel off) :=
  ⟨rfl, rfl, rfl, Nat.le_of_ble_eq_true rfl, Nat.le_of_ble_eq_true rfl⟩
theorem adcIzy (zp : Byte) : Statement (.adcIzy zp) :=
  ⟨rfl, rfl, rfl, Nat.le_of_ble_eq_true rfl, Nat.le_of_ble_eq_true rfl⟩
theorem rraIzy (zp : Byte) : Statement (.rraIzy zp) :=
  ⟨rfl, rfl, rfl, Nat.le_of_ble_eq_true rfl, Nat.le_of_ble_eq_true rfl⟩
theorem nopZpx74 (zp : Byte) : Statement (.nopZpx74 zp) :=
  ⟨rfl, rfl, rfl, Nat.le_of_ble_eq_true rfl, Nat.le_of_ble_eq_true rfl⟩
theorem adcZpx (zp : Byte) : Statement (.adcZpx zp) :=
  ⟨rfl, rfl, rfl, Nat.le_of_ble_eq_true rfl, Nat.le_of_ble_eq_true rfl⟩
theorem rorZpx (zp : Byte) : Statement (.rorZpx zp) :=
  ⟨rfl, rfl, rfl, Nat.le_of_ble_eq_true rfl, Nat.le_of_ble_eq_true rfl⟩
theorem rraZpx (zp : Byte) : Statement (.rraZpx zp) :=
  ⟨rfl, rfl, rfl, Nat.le_of_ble_eq_true rfl, Nat.le_of_ble_eq_true rfl⟩
theorem adcAby (addr : Addr) : Statement (.adcAby addr) :=
  ⟨rfl, rfl, rfl, Nat.le_of_ble_eq_true rfl, Nat.le_of_ble_eq_true rfl⟩
theorem rraAby (addr : Addr) : Statement (.rraAby addr) :=
  ⟨rfl, rfl, rfl, Nat.le_of_ble_eq_true rfl, Nat.le_of_ble_eq_true rfl⟩
theorem nopAbx7C (addr : Addr) : Statement (.nopAbx7C addr) :=
  ⟨rfl, rfl, rfl, Nat.le_of_ble_eq_true rfl, Nat.le_of_ble_eq_true rfl⟩
theorem adcAbx (addr : Addr) : Statement (.adcAbx addr) :=
  ⟨rfl, rfl, rfl, Nat.le_of_ble_eq_true rfl, Nat.le_of_ble_eq_true rfl⟩
theorem rorAbx (addr : Addr) : Statement (.rorAbx addr) :=
  ⟨rfl, rfl, rfl, Nat.le_of_ble_eq_true rfl, Nat.le_of_ble_eq_true rfl⟩
theorem rraAbx (addr : Addr) : Statement (.rraAbx addr) :=
  ⟨rfl, rfl, rfl, Nat.le_of_ble_eq_true rfl, Nat.le_of_ble_eq_true rfl⟩
theorem nopImm80 (imm : Byte) : Statement (.nopImm80 imm) :=
  ⟨rfl, rfl, rfl, Nat.le_of_ble_eq_true rfl, Nat.le_of_ble_eq_true rfl⟩
theorem staIzx (zp : Byte) : Statement (.staIzx zp) :=
  ⟨rfl, rfl, rfl, Nat.le_of_ble_eq_true rfl, Nat.le_of_ble_eq_true rfl⟩
theorem nopImm82 (imm : Byte) : Statement (.nopImm82 imm) :=
  ⟨rfl, rfl, rfl, Nat.le_of_ble_eq_true rfl, Nat.le_of_ble_eq_true rfl⟩
theorem saxIzx (zp : Byte) : Statement (.saxIzx zp) :=
  ⟨rfl, rfl, rfl, Nat.le_of_ble_eq_true rfl, Nat.le_of_ble_eq_true rfl⟩
theorem styZp (zp : Byte) : Statement (.styZp zp) :=
  ⟨rfl, rfl, rfl, Nat.le_of_ble_eq_true rfl, Nat.le_of_ble_eq_true rfl⟩
theorem staZp (zp : Byte) : Statement (.staZp zp) :=
  ⟨rfl, rfl, rfl, Nat.le_of_ble_eq_true rfl, Nat.le_of_ble_eq_true rfl⟩
theorem stxZp (zp : Byte) : Statement (.stxZp zp) :=
  ⟨rfl, rfl, rfl, Nat.le_of_ble_eq_true rfl, Nat.le_of_ble_eq_true rfl⟩
theorem saxZp (zp : Byte) : Statement (.saxZp zp) :=
  ⟨rfl, rfl, rfl, Nat.le_of_ble_eq_true rfl, Nat.le_of_ble_eq_true rfl⟩
theorem nopImm89 (imm : Byte) : Statement (.nopImm89 imm) :=
  ⟨rfl, rfl, rfl, Nat.le_of_ble_eq_true rfl, Nat.le_of_ble_eq_true rfl⟩
theorem xaaImm (imm : Byte) : Statement (.xaaImm imm) :=
  ⟨rfl, rfl, rfl, Nat.le_of_ble_eq_true rfl, Nat.le_of_ble_eq_true rfl⟩
theorem styAbs (addr : Addr) : Statement (.styAbs addr) :=
  ⟨rfl, rfl, rfl, Nat.le_of_ble_eq_true rfl, Nat.le_of_ble_eq_true rfl⟩
theorem staAbs (addr : Addr) : Statement (.staAbs addr) :=
  ⟨rfl, rfl, rfl, Nat.le_of_ble_eq_true rfl, Nat.le_of_ble_eq_true rfl⟩
theorem stxAbs (addr : Addr) : Statement (.stxAbs addr) :=
  ⟨rfl, rfl, rfl, Nat.le_of_ble_eq_true rfl, Nat.le_of_ble_eq_true rfl⟩
theorem saxAbs (addr : Addr) : Statement (.saxAbs addr) :=
  ⟨rfl, rfl, rfl, Nat.le_of_ble_eq_true rfl, Nat.le_of_ble_eq_true rfl⟩
theorem bccRel (off : Byte) : Statement (.bccRel off) :=
  ⟨rfl, rfl, rfl, Nat.le_of_ble_eq_true rfl, Nat.le_of_ble_eq_true rfl⟩
theorem staIzy (zp : Byte) : Statement (.staIzy zp) :=
  ⟨rfl, rfl, rfl, Nat.le_of_ble_eq_true rfl, Nat.le_of_ble_eq_true rfl⟩
theorem shaIzy (zp : Byte) : Statement (.shaIzy zp) :=
  ⟨rfl, rfl, rfl, Nat.le_of_ble_eq_true rfl, Nat.le_of_ble_eq_true rfl⟩
theorem styZpx (zp : Byte) : Statement (.styZpx zp) :=
  ⟨rfl, rfl, rfl, Nat.le_of_ble_eq_true rfl, Nat.le_of_ble_eq_true rfl⟩
theorem staZpx (zp : Byte) : Statement (.staZpx zp) :=
  ⟨rfl, rfl, rfl, Nat.le_of_ble_eq_true rfl, Nat.le_of_ble_eq_true rfl⟩
theorem stxZpy (zp : Byte) : Statement (.stxZpy zp) :=
  ⟨rfl, rfl, rfl, Nat.le_of_ble_eq_true rfl, Nat.le_of_ble_eq_true rfl⟩
theorem saxZpy (zp : Byte) : Statement (.saxZpy zp) :=
  ⟨rfl, rfl, rfl, Nat.le_of_ble_eq_true rfl, Nat.le_of_ble_eq_true rfl⟩
theorem staAby (addr : Addr) : Statement (.staAby addr) :=
  ⟨rfl, rfl, rfl, Nat.le_of_ble_eq_true rfl, Nat.le_of_ble_eq_true rfl⟩
theorem tasAby (addr : Addr) : Statement (.tasAby addr) :=
  ⟨rfl, rfl, rfl, Nat.le_of_ble_eq_true rfl, Nat.le_of_ble_eq_true rfl⟩
theorem shyAbx (addr : Addr) : Statement (.shyAbx addr) :=
  ⟨rfl, rfl, rfl, Nat.le_of_ble_eq_true rfl, Nat.le_of_ble_eq_true rfl⟩
theorem staAbx (addr : Addr) : Statement (.staAbx addr) :=
  ⟨rfl, rfl, rfl, Nat.le_of_ble_eq_true rfl, Nat.le_of_ble_eq_true rfl⟩
theorem shxAby (addr : Addr) : Statement (.shxAby addr) :=
  ⟨rfl, rfl, rfl, Nat.le_of_ble_eq_true rfl, Nat.le_of_ble_eq_true rfl⟩
theorem shaAby (addr : Addr) : Statement (.shaAby addr) :=
  ⟨rfl, rfl, rfl, Nat.le_of_ble_eq_true rfl, Nat.le_of_ble_eq_true rfl⟩
theorem ldyImm (imm : Byte) : Statement (.ldyImm imm) :=
  ⟨rfl, rfl, rfl, Nat.le_of_ble_eq_true rfl, Nat.le_of_ble_eq_true rfl⟩
theorem ldaIzx (zp : Byte) : Statement (.ldaIzx zp) :=
  ⟨rfl, rfl, rfl, Nat.le_of_ble_eq_true rfl, Nat.le_of_ble_eq_true rfl⟩
theorem ldxImm (imm : Byte) : Statement (.ldxImm imm) :=
  ⟨rfl, rfl, rfl, Nat.le_of_ble_eq_true rfl, Nat.le_of_ble_eq_true rfl⟩
theorem laxIzx (zp : Byte) : Statement (.laxIzx zp) :=
  ⟨rfl, rfl, rfl, Nat.le_of_ble_eq_true rfl, Nat.le_of_ble_eq_true rfl⟩
theorem ldyZp (zp : Byte) : Statement (.ldyZp zp) :=
  ⟨rfl, rfl, rfl, Nat.le_of_ble_eq_true rfl, Nat.le_of_ble_eq_true rfl⟩
theorem ldaZp (zp : Byte) : Statement (.ldaZp zp) :=
  ⟨rfl, rfl, rfl, Nat.le_of_ble_eq_true rfl, Nat.le_of_ble_eq_true rfl⟩
theorem ldxZp (zp : Byte) : Statement (.ldxZp zp) :=
  ⟨rfl, rfl, rfl, Nat.le_of_ble_eq_true rfl, Nat.le_of_ble_eq_true rfl⟩
theorem laxZp (zp : Byte) : Statement (.laxZp zp) :=
  ⟨rfl, rfl, rfl, Nat.le_of_ble_eq_true rfl, Nat.le_of_ble_eq_true rfl⟩
theorem ldaImm (imm : Byte) : Statement (.ldaImm imm) :=
  ⟨rfl, rfl, rfl, Nat.le_of_ble_eq_true rfl, Nat.le_of_ble_eq_true rfl⟩
theorem lxaImm (imm : Byte) : Statement (.lxaImm imm) :=
  ⟨rfl, rfl, rfl, Nat.le_of_ble_eq_true rfl, Nat.le_of_ble_eq_true rfl⟩
theorem ldyAbs (addr : Addr) : Statement (.ldyAbs addr) :=
  ⟨rfl, rfl, rfl, Nat.le_of_ble_eq_true rfl, Nat.le_of_ble_eq_true rfl⟩
theorem ldaAbs (addr : Addr) : Statement (.ldaAbs addr) :=
  ⟨rfl, rfl, rfl, Nat.le_of_ble_eq_true rfl, Nat.le_of_ble_eq_true rfl⟩
theorem ldxAbs (addr : Addr) : Statement (.ldxAbs addr) :=
  ⟨rfl, rfl, rfl, Nat.le_of_ble_eq_true rfl, Nat.le_of_ble_eq_true rfl⟩
theorem laxAbs (addr : Addr) : Statement (.laxAbs addr) :=
  ⟨rfl, rfl, rfl, Nat.le_of_ble_eq_true rfl, Nat.le_of_ble_eq_true rfl⟩
theorem bcsRel (off : Byte) : Statement (.bcsRel off) :=
  ⟨rfl, rfl, rfl, Nat.le_of_ble_eq_true rfl, Nat.le_of_ble_eq_true rfl⟩
theorem ldaIzy (zp : Byte) : Statement (.ldaIzy zp) :=
  ⟨rfl, rfl, rfl, Nat.le_of_ble_eq_true rfl, Nat.le_of_ble_eq_true rfl⟩
theorem laxIzy (zp : Byte) : Statement (.laxIzy zp) :=
  ⟨rfl, rfl, rfl, Nat.le_of_ble_eq_true rfl, Nat.le_of_ble_eq_true rfl⟩
theorem ldyZpx (zp : Byte) : Statement (.ldyZpx zp) :=
  ⟨rfl, rfl, rfl, Nat.le_of_ble_eq_true rfl, Nat.le_of_ble_eq_true rfl⟩
theorem ldaZpx (zp : Byte) : Statement (.ldaZpx zp) :=
  ⟨rfl, rfl, rfl, Nat.le_of_ble_eq_true rfl, Nat.le_of_ble_eq_true rfl⟩
theorem ldxZpy (zp : Byte) : Statement (.ldxZpy zp) :=
  ⟨rfl, rfl, rfl, Nat.le_of_ble_eq_true rfl, Nat.le_of_ble_eq_true rfl⟩
theorem laxZpy (zp : Byte) : Statement (.laxZpy zp) :=
  ⟨rfl, rfl, rfl, Nat.le_of_ble_eq_true rfl, Nat.le_of_ble_eq_true rfl⟩
theorem ldaAby (addr : Addr) : Statement (.ldaAby addr) :=
  ⟨rfl, rfl, rfl, Nat.le_of_ble_eq_true rfl, Nat.le_of_ble_eq_true rfl⟩
theorem lasAby (addr : Addr) : Statement (.lasAby addr) :=
  ⟨rfl, rfl, rfl, Nat.le_of_ble_eq_true rfl, Nat.le_of_ble_eq_true rfl⟩
theorem ldyAbx (addr : Addr) : Statement (.ldyAbx addr) :=
  ⟨rfl, rfl, rfl, Nat.le_of_ble_eq_true rfl, Nat.le_of_ble_eq_true rfl⟩
theorem ldaAbx (addr : Addr) : Statement (.ldaAbx addr) :=
  ⟨rfl, rfl, rfl, Nat.le_of_ble_eq_true rfl, Nat.le_of_ble_eq_true rfl⟩
theorem ldxAby (addr : Addr) : Statement (.ldxAby addr) :=
  ⟨rfl, rfl, rfl, Nat.le_of_ble_eq_true rfl, Nat.le_of_ble_eq_true rfl⟩
theorem laxAby (addr : Addr) : Statement (.laxAby addr) :=
  ⟨rfl, rfl, rfl, Nat.le_of_ble_eq_true rfl, Nat.le_of_ble_eq_true rfl⟩
theorem cpyImm (imm : Byte) : Statement (.cpyImm imm) :=
  ⟨rfl, rfl, rfl, Nat.le_of_ble_eq_true rfl, Nat.le_of_ble_eq_true rfl⟩
theorem cmpIzx (zp : Byte) : Statement (.cmpIzx zp) :=
  ⟨rfl, rfl, rfl, Nat.le_of_ble_eq_true rfl, Nat.le_of_ble_eq_true rfl⟩
theorem nopImmC2 (imm : Byte) : Statement (.nopImmC2 imm) :=
  ⟨rfl, rfl, rfl, Nat.le_of_ble_eq_true rfl, Nat.le_of_ble_eq_true rfl⟩
theorem dcpIzx (zp : Byte) : Statement (.dcpIzx zp) :=
  ⟨rfl, rfl, rfl, Nat.le_of_ble_eq_true rfl, Nat.le_of_ble_eq_true rfl⟩
theorem cpyZp (zp : Byte) : Statement (.cpyZp zp) :=
  ⟨rfl, rfl, rfl, Nat.le_of_ble_eq_true rfl, Nat.le_of_ble_eq_true rfl⟩
theorem cmpZp (zp : Byte) : Statement (.cmpZp zp) :=
  ⟨rfl, rfl, rfl, Nat.le_of_ble_eq_true rfl, Nat.le_of_ble_eq_true rfl⟩
theorem decZp (zp : Byte) : Statement (.decZp zp) :=
  ⟨rfl, rfl, rfl, Nat.le_of_ble_eq_true rfl, Nat.le_of_ble_eq_true rfl⟩
theorem dcpZp (zp : Byte) : Statement (.dcpZp zp) :=
  ⟨rfl, rfl, rfl, Nat.le_of_ble_eq_true rfl, Nat.le_of_ble_eq_true rfl⟩
theorem cmpImm (imm : Byte) : Statement (.cmpImm imm) :=
  ⟨rfl, rfl, rfl, Nat.le_of_ble_eq_true rfl, Nat.le_of_ble_eq_true rfl⟩
theorem sbxImm (imm : Byte) : Statement (.sbxImm imm) :=
  ⟨rfl, rfl, rfl, Nat.le_of_ble_eq_true rfl, Nat.le_of_ble_eq_true rfl⟩
theorem cpyAbs (addr : Addr) : Statement (.cpyAbs addr) :=
  ⟨rfl, rfl, rfl, Nat.le_of_ble_eq_true rfl, Nat.le_of_ble_eq_true rfl⟩
theorem cmpAbs (addr : Addr) : Statement (.cmpAbs addr) :=
  ⟨rfl, rfl, rfl, Nat.le_of_ble_eq_true rfl, Nat.le_of_ble_eq_true rfl⟩
theorem decAbs (addr : Addr) : Statement (.decAbs addr) :=
  ⟨rfl, rfl, rfl, Nat.le_of_ble_eq_true rfl, Nat.le_of_ble_eq_true rfl⟩
theorem dcpAbs (addr : Addr) : Statement (.dcpAbs addr) :=
  ⟨rfl, rfl, rfl, Nat.le_of_ble_eq_true rfl, Nat.le_of_ble_eq_true rfl⟩
theorem bneRel (off : Byte) : Statement (.bneRel off) :=
  ⟨rfl, rfl, rfl, Nat.le_of_ble_eq_true rfl, Nat.le_of_ble_eq_true rfl⟩
theorem cmpIzy (zp : Byte) : Statement (.cmpIzy zp) :=
  ⟨rfl, rfl, rfl, Nat.le_of_ble_eq_true rfl, Nat.le_of_ble_eq_true rfl⟩
theorem dcpIzy (zp : Byte) : Statement (.dcpIzy zp) :=
  ⟨rfl, rfl, rfl, Nat.le_of_ble_eq_true rfl, Nat.le_of_ble_eq_true rfl⟩
theorem nopZpxD4 (zp : Byte) : Statement (.nopZpxD4 zp) :=
  ⟨rfl, rfl, rfl, Nat.le_of_ble_eq_true rfl, Nat.le_of_ble_eq_true rfl⟩
theorem cmpZpx (zp : Byte) : Statement (.cmpZpx zp) :=
  ⟨rfl, rfl, rfl, Nat.le_of_ble_eq_true rfl, Nat.le_of_ble_eq_true rfl⟩
theorem decZpx (zp : Byte) : Statement (.decZpx zp) :=
  ⟨rfl, rfl, rfl, Nat.le_of_ble_eq_true rfl, Nat.le_of_ble_eq_true rfl⟩
theorem dcpZpx (zp : Byte) : Statement (.dcpZpx zp) :=
  ⟨rfl, rfl, rfl, Nat.le_of_ble_eq_true rfl, Nat.le_of_ble_eq_true rfl⟩
theorem cmpAby (addr : Addr) : Statement (.cmpAby addr) :=
  ⟨rfl, rfl, rfl, Nat.le_of_ble_eq_true rfl, Nat.le_of_ble_eq_true rfl⟩
theorem dcpAby (addr : Addr) : Statement (.dcpAby addr) :=
  ⟨rfl, rfl, rfl, Nat.le_of_ble_eq_true rfl, Nat.le_of_ble_eq_true rfl⟩
theorem nopAbxDC (addr : Addr) : Statement (.nopAbxDC addr) :=
  ⟨rfl, rfl, rfl, Nat.le_of_ble_eq_true rfl, Nat.le_of_ble_eq_true rfl⟩
theorem cmpAbx (addr : Addr) : Statement (.cmpAbx addr) :=
  ⟨rfl, rfl, rfl, Nat.le_of_ble_eq_true rfl, Nat.le_of_ble_eq_true rfl⟩
theorem decAbx (addr : Addr) : Statement (.decAbx addr) :=
  ⟨rfl, rfl, rfl, Nat.le_of_ble_eq_true rfl, Nat.le_of_ble_eq_true rfl⟩
theorem dcpAbx (addr : Addr) : Statement (.dcpAbx addr) :=
  ⟨rfl, rfl, rfl, Nat.le_of_ble_eq_true rfl, Nat.le_of_ble_eq_true rfl⟩
theorem cpxImm (imm : Byte) : Statement (.cpxImm imm) :=
  ⟨rfl, rfl, rfl, Nat.le_of_ble_eq_true rfl, Nat.le_of_ble_eq_true rfl⟩
theorem sbcIzx (zp : Byte) : Statement (.sbcIzx zp) :=
  ⟨rfl, rfl, rfl, Nat.le_of_ble_eq_true rfl, Nat.le_of_ble_eq_true rfl⟩
theorem nopImmE2 (imm : Byte) : Statement (.nopImmE2 imm) :=
  ⟨rfl, rfl, rfl, Nat.le_of_ble_eq_true rfl, Nat.le_of_ble_eq_true rfl⟩
theorem isbIzx (zp : Byte) : Statement (.isbIzx zp) :=
  ⟨rfl, rfl, rfl, Nat.le_of_ble_eq_true rfl, Nat.le_of_ble_eq_true rfl⟩
theorem cpxZp (zp : Byte) : Statement (.cpxZp zp) :=
  ⟨rfl, rfl, rfl, Nat.le_of_ble_eq_true rfl, Nat.le_of_ble_eq_true rfl⟩
theorem sbcZp (zp : Byte) : Statement (.sbcZp zp) :=
  ⟨rfl, rfl, rfl, Nat.le_of_ble_eq_true rfl, Nat.le_of_ble_eq_true rfl⟩
theorem incZp (zp : Byte) : Statement (.incZp zp) :=
  ⟨rfl, rfl, rfl, Nat.le_of_ble_eq_true rfl, Nat.le_of_ble_eq_true rfl⟩
theorem isbZp (zp : Byte) : Statement (.isbZp zp) :=
  ⟨rfl, rfl, rfl, Nat.le_of_ble_eq_true rfl, Nat.le_of_ble_eq_true rfl⟩
theorem sbcImm (imm : Byte) : Statement (.sbcImm imm) :=
  ⟨rfl, rfl, rfl, Nat.le_of_ble_eq_true rfl, Nat.le_of_ble_eq_true rfl⟩
theorem sbcImmEB (imm : Byte) : Statement (.sbcImmEB imm) :=
  ⟨rfl, rfl, rfl, Nat.le_of_ble_eq_true rfl, Nat.le_of_ble_eq_true rfl⟩
theorem cpxAbs (addr : Addr) : Statement (.cpxAbs addr) :=
  ⟨rfl, rfl, rfl, Nat.le_of_ble_eq_true rfl, Nat.le_of_ble_eq_true rfl⟩
theorem sbcAbs (addr : Addr) : Statement (.sbcAbs addr) :=
  ⟨rfl, rfl, rfl, Nat.le_of_ble_eq_true rfl, Nat.le_of_ble_eq_true rfl⟩
theorem incAbs (addr : Addr) : Statement (.incAbs addr) :=
  ⟨rfl, rfl, rfl, Nat.le_of_ble_eq_true rfl, Nat.le_of_ble_eq_true rfl⟩
theorem isbAbs (addr : Addr) : Statement (.isbAbs addr) :=
  ⟨rfl, rfl, rfl, Nat.le_of_ble_eq_true rfl, Nat.le_of_ble_eq_true rfl⟩
theorem beqRel (off : Byte) : Statement (.beqRel off) :=
  ⟨rfl, rfl, rfl, Nat.le_of_ble_eq_true rfl, Nat.le_of_ble_eq_true rfl⟩
theorem sbcIzy (zp : Byte) : Statement (.sbcIzy zp) :=
  ⟨rfl, rfl, rfl, Nat.le_of_ble_eq_true rfl, Nat.le_of_ble_eq_true rfl⟩
theorem isbIzy (zp : Byte) : Statement (.isbIzy zp) :=
  ⟨rfl, rfl, rfl, Nat.le_of_ble_eq_true rfl, Nat.le_of_ble_eq_true rfl⟩
theorem nopZpxF4 (zp : Byte) : Statement (.nopZpxF4 zp) :=
  ⟨rfl, rfl, rfl, Nat.le_of_ble_eq_true rfl, Nat.le_of_ble_eq_true rfl⟩
theorem sbcZpx (zp : Byte) : Statement (.sbcZpx zp) :=
  ⟨rfl, rfl, rfl, Nat.le_of_ble_eq_true rfl, Nat.le_of_ble_eq_true rfl⟩
theorem incZpx (zp : Byte) : Statement (.incZpx zp) :=
  ⟨rfl, rfl, rfl, Nat.le_of_ble_eq_true rfl, Nat.le_of_ble_eq_true rfl⟩
theorem isbZpx (zp : Byte) : Statement (.isbZpx zp) :=
  ⟨rfl, rfl, rfl, Nat.le_of_ble_eq_true rfl, Nat.le_of_ble_eq_true rfl⟩
theorem sbcAby (addr : Addr) : Statement (.sbcAby addr) :=
  ⟨rfl, rfl, rfl, Nat.le_of_ble_eq_true rfl, Nat.le_of_ble_eq_true rfl⟩
theorem isbAby (addr : Addr) : Statement (.isbAby addr) :=
  ⟨rfl, rfl, rfl, Nat.le_of_ble_eq_true rfl, Nat.le_of_ble_eq_true rfl⟩
theorem nopAbxFC (addr : Addr) : Statement (.nopAbxFC addr) :=
  ⟨rfl, rfl, rfl, Nat.le_of_ble_eq_true rfl, Nat.le_of_ble_eq_true rfl⟩
theorem sbcAbx (addr : Addr) : Statement (.sbcAbx addr) :=
  ⟨rfl, rfl, rfl, Nat.le_of_ble_eq_true rfl, Nat.le_of_ble_eq_true rfl⟩
theorem incAbx (addr : Addr) : Statement (.incAbx addr) :=
  ⟨rfl, rfl, rfl, Nat.le_of_ble_eq_true rfl, Nat.le_of_ble_eq_true rfl⟩
theorem isbAbx (addr : Addr) : Statement (.isbAbx addr) :=
  ⟨rfl, rfl, rfl, Nat.le_of_ble_eq_true rfl, Nat.le_of_ble_eq_true rfl⟩
theorem brk : Statement .brk :=
  ⟨rfl, rfl, rfl, Nat.le_of_ble_eq_true rfl, Nat.le_of_ble_eq_true rfl⟩
theorem jam02 : Statement .jam02 :=
  ⟨rfl, rfl, rfl, Nat.le_of_ble_eq_true rfl, Nat.le_of_ble_eq_true rfl⟩
theorem php : Statement .php :=
  ⟨rfl, rfl, rfl, Nat.le_of_ble_eq_true rfl, Nat.le_of_ble_eq_true rfl⟩
theorem aslAcc : Statement .aslAcc :=
  ⟨rfl, rfl, rfl, Nat.le_of_ble_eq_true rfl, Nat.le_of_ble_eq_true rfl⟩
theorem jam12 : Statement .jam12 :=
  ⟨rfl, rfl, rfl, Nat.le_of_ble_eq_true rfl, Nat.le_of_ble_eq_true rfl⟩
theorem clc : Statement .clc :=
  ⟨rfl, rfl, rfl, Nat.le_of_ble_eq_true rfl, Nat.le_of_ble_eq_true rfl⟩
theorem nop1A : Statement .nop1A :=
  ⟨rfl, rfl, rfl, Nat.le_of_ble_eq_true rfl, Nat.le_of_ble_eq_true rfl⟩
theorem jam22 : Statement .jam22 :=
  ⟨rfl, rfl, rfl, Nat.le_of_ble_eq_true rfl, Nat.le_of_ble_eq_true rfl⟩
theorem plp : Statement .plp :=
  ⟨rfl, rfl, rfl, Nat.le_of_ble_eq_true rfl, Nat.le_of_ble_eq_true rfl⟩
theorem rolAcc : Statement .rolAcc :=
  ⟨rfl, rfl, rfl, Nat.le_of_ble_eq_true rfl, Nat.le_of_ble_eq_true rfl⟩
theorem jam32 : Statement .jam32 :=
  ⟨rfl, rfl, rfl, Nat.le_of_ble_eq_true rfl, Nat.le_of_ble_eq_true rfl⟩
theorem sec : Statement .sec :=
  ⟨rfl, rfl, rfl, Nat.le_of_ble_eq_true rfl, Nat.le_of_ble_eq_true rfl⟩
theorem nop3A : Statement .nop3A :=
  ⟨rfl, rfl, rfl, Nat.le_of_ble_eq_true rfl, Nat.le_of_ble_eq_true rfl⟩
theorem rti : Statement .rti :=
  ⟨rfl, rfl, rfl, Nat.le_of_ble_eq_true rfl, Nat.le_of_ble_eq_true rfl⟩
theorem jam42 : Statement .jam42 :=
  ⟨rfl, rfl, rfl, Nat.le_of_ble_eq_true rfl, Nat.le_of_ble_eq_true rfl⟩
theorem pha : Statement .pha :=
  ⟨rfl, rfl, rfl, Nat.le_of_ble_eq_true rfl, Nat.le_of_ble_eq_true rfl⟩
theorem lsrAcc : Statement .lsrAcc :=
  ⟨rfl, rfl, rfl, Nat.le_of_ble_eq_true rfl, Nat.le_of_ble_eq_true rfl⟩
theorem jam52 : Statement .jam52 :=
  ⟨rfl, rfl, rfl, Nat.le_of_ble_eq_true rfl, Nat.le_of_ble_eq_true rfl⟩
theorem cli : Statement .cli :=
  ⟨rfl, rfl, rfl, Nat.le_of_ble_eq_true rfl, Nat.le_of_ble_eq_true rfl⟩
theorem nop5A : Statement .nop5A :=
  ⟨rfl, rfl, rfl, Nat.le_of_ble_eq_true rfl, Nat.le_of_ble_eq_true rfl⟩
theorem rts : Statement .rts :=
  ⟨rfl, rfl, rfl, Nat.le_of_ble_eq_true rfl, Nat.le_of_ble_eq_true rfl⟩
theorem jam62 : Statement .jam62 :=
  ⟨rfl, rfl, rfl, Nat.le_of_ble_eq_true rfl, Nat.le_of_ble_eq_true rfl⟩
theorem pla : Statement .pla :=
  ⟨rfl, rfl, rfl, Nat.le_of_ble_eq_true rfl, Nat.le_of_ble_eq_true rfl⟩
theorem rorAcc : Statement .rorAcc :=
  ⟨rfl, rfl, rfl, Nat.le_of_ble_eq_true rfl, Nat.le_of_ble_eq_true rfl⟩
theorem jam72 : Statement .jam72 :=
  ⟨rfl, rfl, rfl, Nat.le_of_ble_eq_true rfl, Nat.le_of_ble_eq_true rfl⟩
theorem sei : Statement .sei :=
  ⟨rfl, rfl, rfl, Nat.le_of_ble_eq_true rfl, Nat.le_of_ble_eq_true rfl⟩
theorem nop7A : Statement .nop7A :=
  ⟨rfl, rfl, rfl, Nat.le_of_ble_eq_true rfl, Nat.le_of_ble_eq_true rfl⟩
theorem dey : Statement .dey :=
  ⟨rfl, rfl, rfl, Nat.le_of_ble_eq_true rfl, Nat.le_of_ble_eq_true rfl⟩
theorem txa : Statement .txa :=
  ⟨rfl, rfl, rfl, Nat.le_of_ble_eq_true rfl, Nat.le_of_ble_eq_true rfl⟩
theorem jam92 : Statement .jam92 :=
  ⟨rfl, rfl, rfl, Nat.le_of_ble_eq_true rfl, Nat.le_of_ble_eq_true rfl⟩
theorem tya : Statement .tya :=
  ⟨rfl, rfl, rfl, Nat.le_of_ble_eq_true rfl, Nat.le_of_ble_eq_true rfl⟩
theorem txs : Statement .txs :=
  ⟨rfl, rfl, rfl, Nat.le_of_ble_eq_true rfl, Nat.le_of_ble_eq_true rfl⟩
theorem tay : Statement .tay :=
  ⟨rfl, rfl, rfl, Nat.le_of_ble_eq_true rfl, Nat.le_of_ble_eq_true rfl⟩
theorem tax : Statement .tax :=
  ⟨rfl, rfl, rfl, Nat.le_of_ble_eq_true rfl, Nat.le_of_ble_eq_true rfl⟩
theorem jamB2 : Statement .jamB2 :=
  ⟨rfl, rfl, rfl, Nat.le_of_ble_eq_true rfl, Nat.le_of_ble_eq_true rfl⟩
theorem clv : Statement .clv :=
  ⟨rfl, rfl, rfl, Nat.le_of_ble_eq_true rfl, Nat.le_of_ble_eq_true rfl⟩
theorem tsx : Statement .tsx :=
  ⟨rfl, rfl, rfl, Nat.le_of_ble_eq_true rfl, Nat.le_of_ble_eq_true rfl⟩
theorem iny : Statement .iny :=
  ⟨rfl, rfl, rfl, Nat.le_of_ble_eq_true rfl, Nat.le_of_ble_eq_true rfl⟩
theorem dex : Statement .dex :=
  ⟨rfl, rfl, rfl, Nat.le_of_ble_eq_true rfl, Nat.le_of_ble_eq_true rfl⟩
theorem jamD2 : Statement .jamD2 :=
  ⟨rfl, rfl, rfl, Nat.le_of_ble_eq_true rfl, Nat.le_of_ble_eq_true rfl⟩
theorem cld : Statement .cld :=
  ⟨rfl, rfl, rfl, Nat.le_of_ble_eq_true rfl, Nat.le_of_ble_eq_true rfl⟩
theorem nopDA : Statement .nopDA :=
  ⟨rfl, rfl, rfl, Nat.le_of_ble_eq_true rfl, Nat.le_of_ble_eq_true rfl⟩
theorem inx : Statement .inx :=
  ⟨rfl, rfl, rfl, Nat.le_of_ble_eq_true rfl, Nat.le_of_ble_eq_true rfl⟩
theorem nop : Statement .nop :=
  ⟨rfl, rfl, rfl, Nat.le_of_ble_eq_true rfl, Nat.le_of_ble_eq_true rfl⟩
theorem jamF2 : Statement .jamF2 :=
  ⟨rfl, rfl, rfl, Nat.le_of_ble_eq_true rfl, Nat.le_of_ble_eq_true rfl⟩
theorem sed : Statement .sed :=
  ⟨rfl, rfl, rfl, Nat.le_of_ble_eq_true rfl, Nat.le_of_ble_eq_true rfl⟩
theorem nopFA : Statement .nopFA :=
  ⟨rfl, rfl, rfl, Nat.le_of_ble_eq_true rfl, Nat.le_of_ble_eq_true rfl⟩

end Sys2Proof.Laws.EncodedSize
end

