-- ==== Sys2Proof/Laws/Storage.lean ====
section
/-!
SUPPORT. Storage seen from the CPU: a read of a stored byte, the stack slots, and what a push and a pull do.
-/

namespace Sys2Proof.Machine

/-! ### Stored bytes -/

/-- A bus read where storage answers gives the stored byte and changes nothing. -/
theorem busRead_stored {s : State} {addr : Addr} {v : Byte} (h : storedByte s addr = some v) :
    busRead addr s = (v, s) := by
  unfold storedByte at h
  unfold busRead
  cases hm : s.cfg.busMode <;> simp only [hm] at h ⊢
  · unfold consoleRead
    by_cases h1 : addr.toNat < 0x2000
    · simp only [h1, if_true] at h ⊢
      exact Prod.ext (Option.some.inj h) rfl
    · by_cases h2 : addr.toNat < 0x4020
      · simp [h1, h2] at h
      · simp only [h1, h2, if_false] at h
        simp only [h1, h2, show ¬addr.toNat < 0x4000 by omega, show ¬addr.toNat < 0x4015 by omega,
          show ¬addr.toNat = 0x4015 by omega, show ¬addr.toNat = 0x4016 by omega, show ¬addr.toNat = 0x4017 by omega,
          if_false]
        exact Prod.ext (Option.some.inj h) rfl
  · exact Prod.ext (Option.some.inj h) rfl

/-- Cycles without a store keep every stored byte. -/
theorem Cycled.storedByte {s t : State} (h : Cycled s t) (addr : Addr) : storedByte t addr = storedByte s addr := by
  simp only [Machine.storedByte, mapperCpuRead, h.cfg, h.ram, h.exram, h.sram, h.flat, h.cart]

theorem storedByte_setRegs (f : Regs → Regs) (s : State) (addr : Addr) :
    storedByte (setRegs f s) addr = storedByte s addr := rfl

/-- One cycle that reads gives the byte stored before it. -/
theorem memRead_stored {s : State} {addr : Addr} {v : Byte} (h : storedByte s addr = some v) :
    (memRead addr s).1 = v := by
  have k : storedByte (drainStall s) addr = some v := ((cycled_drainStall s).storedByte addr).trans h
  simp only [memRead, busRead_stored k]

/-! ### The stack -/

theorem stackAddr_toNat (sp : Byte) : (stackAddr sp).toNat = 0x100 + sp.toNat := by
  have := sp.isLt
  simp only [stackAddr, BitVec.toNat_append]
  rw [← Nat.shiftLeft_add_eq_or_of_lt (by omega)]
  rfl

/-- The stack slot is RAM, or flat memory. -/
theorem storedByte_stackAddr (s : State) (sp : Byte) : storedByte s (stackAddr sp) = some (stackByte s sp) := by
  have := sp.isLt
  simp only [storedByte, stackAddr_toNat, stackByte, zeroPageByte, cellByte]
  cases s.cfg.busMode
  · simp only [show 256 + sp.toNat < 0x2000 by omega, if_true, Nat.mod_eq_of_lt (show 256 + sp.toNat < 0x800 by omega)]
  · rfl

theorem storeTarget_stackAddr (s : State) (sp : Byte) : storeTarget s (stackAddr sp) = some (stackCell s sp) := by
  have := sp.isLt
  simp only [storeTarget, stackAddr_toNat, stackCell]
  cases s.cfg.busMode
  · simp only [show 256 + sp.toNat < 0x2000 by omega, if_true, Nat.mod_eq_of_lt (show 256 + sp.toNat < 0x800 by omega)]
  · rfl

theorem isPlainAddress_stackAddr (s : State) (sp : Byte) : isPlainAddress s (stackAddr sp) = true := by
  have := sp.isLt
  simp only [isPlainAddress, stackAddr_toNat]
  cases s.cfg.busMode
  · simp only [Bool.or_eq_true, decide_eq_true_eq]; omega
  · rfl

theorem stackByte_eq_cellByte (s : State) (sp : Byte) :
    stackByte s sp = cellByte s (stackCell s sp).1 (stackCell s sp).2 := by
  simp only [stackByte, zeroPageByte, stackCell]
  cases s.cfg.busMode <;> rfl

theorem SameBytes.stackByte {s t : State} (h : SameBytes s t) (hc : t.cfg = s.cfg) (sp : Byte) :
    stackByte t sp = stackByte s sp := by
  simp only [Machine.stackByte, zeroPageByte, hc, h _ _]

/-- A pull gives the byte at the slot above S, moves S up, and disturbs nothing else. -/
theorem pull_spec (s : State) :
    (pull s).1 = stackByte s (s.regs.s + 1) ∧ (pull s).2.regs = { s.regs with s := s.regs.s + 1 }
      ∧ Undisturbed s (pull s).2 :=
  ⟨memRead_stored (storedByte_stackAddr s (s.regs.s + 1)), pull_regs s,
    (undisturbed_setRegs _ s).trans (cycled_pull s).undisturbed⟩

/-- A push stores the byte in the slot S addresses, moves S down, and keeps every other byte and control register. -/
theorem push_spec (v : Byte) (s : State) :
    (push v s).regs = { s.regs with s := s.regs.s - 1 } ∧ stackByte (push v s) s.regs.s = v
      ∧ (∀ k a, (k, a) ≠ stackCell s s.regs.s → cellByte (push v s) k a = cellByte s k a)
      ∧ KeptControl s (push v s) ∧ Clocked s (push v s) := by
  obtain ⟨-, st, same, run, clk, ctl⟩ := stored_memWrite (stackAddr s.regs.s) v s
  have ht : storeTarget (drainStall s) (stackAddr s.regs.s) = some (stackCell s s.regs.s) := by
    rw [storeTarget_stackAddr]
    simp only [stackCell, (cycled_drainStall s).cfg]
  have hb : ∀ k a, cellByte (push v s) k a = if stackCell s s.regs.s = (k, a) then v else cellByte s k a := by
    intro k a
    have := st k a
    rw [ht, same k a] at this
    simp only [Option.some.injEq] at this
    rw [← this]
    cases k <;> rfl
  have hc : (push v s).cfg = s.cfg := run.cfg
  refine ⟨push_regs v s, ?_, ?_, ?_, ⟨clk.forward, clk.count, clk.nmi⟩⟩
  · rw [stackByte_eq_cellByte, hb]
    simp only [stackCell, hc, if_true]
  · intro k a h
    rw [hb, if_neg (Ne.symm h)]
  · exact (ctl (isPlainAddress_stackAddr s s.regs.s)).trans
      ⟨rfl, rfl, rfl, rfl, rfl, rfl, rfl, rfl, rfl, rfl, rfl, rfl, rfl, rfl, fun _ => rfl⟩

end Sys2Proof.Machine
end

