-- ==== Sys2Proof/Laws/Step.lean ====
section
/-!
SUPPORT. What the fetch, the vector load and a whole step can do, said once: a step is an idle cycle, or the fetched
instruction's execution and the end of the step.
-/

namespace Sys2Proof.Machine

/-! ### Fetch and vector -/

/-- A fetch moves PC on by one, disturbs nothing else, and gives the stored byte where storage answers. -/
theorem fetchByte_spec (s : State) :
    (fetchByte s).2.regs = { s.regs with pc := s.regs.pc + 1 } ∧ Undisturbed s (fetchByte s).2
      ∧ (∀ a, storedByte (fetchByte s).2 a = storedByte s a)
      ∧ ∀ v, storedByte s s.regs.pc = some v → (fetchByte s).1 = v := by
  have h := cycled_memRead s.regs.pc s
  refine ⟨?_, h.undisturbed.trans (undisturbed_setRegs (fun q => { q with pc := q.pc + 1 }) _), h.storedByte,
    fun v e => memRead_stored e⟩
  simp [fetchByte, h.regs]

/-- Bytes that are only looked at: the stored one where storage answers. -/
theorem lookAhead_stored {s : State} {k : Addr} {v : Byte} (h : storedByte s (s.regs.pc + k) = some v) :
    lookAhead k s = v := by
  simp only [lookAhead, busRead_stored h]

/-- Loading PC from a vector changes PC alone; where storage holds the vector, PC becomes its word. -/
theorem loadVector_spec (vec : Addr) (s : State) :
    (loadVector vec s).regs = { s.regs with pc := (loadVector vec s).regs.pc } ∧ Undisturbed s (loadVector vec s)
      ∧ ∀ lo hi, storedByte s vec = some lo → storedByte s (vec + 1) = some hi →
          (loadVector vec s).regs.pc = addrOf lo hi := by
  have h := cycled_memRead vec s
  have k := cycled_memRead (vec + 1) (memRead vec s).2
  refine ⟨?_, (h.trans k).undisturbed.trans (undisturbed_setRegs (fun q => { q with pc := _ }) _), fun lo hi e f => ?_⟩
  · have e : (memRead (vec + 1) (memRead vec s).2).2.regs = s.regs := k.regs.trans h.regs
    simp only [loadVector, setPc, setRegs_regs, e]
  · have f' : storedByte (memRead vec s).2 (vec + 1) = some hi := (h.storedByte _).trans f
    simp only [loadVector, setPc_pc, memRead_stored e, memRead_stored f']

/-! ### The step -/

theorem settle_next {s t : State} : settle s = .next t ↔ s.hung = false ∧ t = s := by
  unfold settle
  cases s.hung <;> simp [eq_comm]

/-- What a step that answers a next state did. -/
theorem step_next {s t : State} (h : step s = .next t) :
    s.fault = none ∧ t.hung = false ∧
      ((s.trapped = true ∧ t = tick { s with delta := 0 }) ∨
        (s.trapped = false ∧ (fetchInstr { s with delta := 0 }).2.hung = false ∧
          ∃ u, exec (fetchInstr { s with delta := 0 }).1 (fetchInstr { s with delta := 0 }).2 = .next u ∧
            t = finishStep (fetchInstr { s with delta := 0 }).1.mnemonic
              (fetchInstr { s with delta := 0 }).2.regs.p.i u)) := by
  unfold step at h
  split at h
  · cases h
  next hf =>
    refine ⟨hf, ?_⟩
    dsimp only at h
    split at h
    next ht =>
      obtain ⟨h1, rfl⟩ := settle_next.mp h
      exact ⟨h1, .inl ⟨ht, rfl⟩⟩
    next ht =>
      split at h
      · cases h
      next hh =>
        split at h
        next u hu =>
          obtain ⟨h1, rfl⟩ := settle_next.mp h
          exact ⟨h1, .inr ⟨by simpa using ht, by simpa using hh, u, hu, rfl⟩⟩
        · cases h
        · cases h

end Sys2Proof.Machine
end

