-- ==== Sys2Proof/Tests/Slice0.lean ====
section
/-!
SUPPORT. Tests of the model, with the expected results of 95_test_vectors.md, which derives them from the spec's rules,
and witnesses that the hypotheses of the statements can be met. Each is about one step or one operation.
-/

namespace Sys2Proof.Tests

open Sys2Proof.Machine

-- One test at a time: a hundred small kernel evaluations side by side need more memory than a check has.
set_option Elab.async false

/-! ### Helpers -/

/-- A memory from its bytes, in any order. -/
def listed (bytes : List (Nat × Byte)) : Memory := bytes.foldl (fun m c => m.write c.1 c.2) []

/-- Bytes at an address and up. -/
def code (base : Nat) (bytes : List Byte) : List (Nat × Byte) := bytes.zipIdx.map fun c => (base + c.2, c.1)

/-- A core in flat mode with the given registers, a program at PC, and memory (95_test_vectors.md section 2.0). -/
def core (extra : Bool) (pc : Addr) (a x y sp p : Byte) (program : List Byte) (bytes : List (Nat × Byte)) : State :=
  setVectorState pc a x y sp p (listed (code pc.toNat program ++ bytes))
    { State.reset with cfg := { Params.default with busMode := .flat64k, extraUnofficial := extra } }

/-- PC, A, X, Y, S, P and the step's cycles. -/
def report (s : State) : List Nat :=
  [s.regs.pc.toNat, s.regs.a.toNat, s.regs.x.toNat, s.regs.y.toNat, s.regs.s.toNat, s.regs.p.toByte.toNat, s.delta]

/-- One step from `s` ends with the registers and cycles, and the bytes of the flat memory. -/
def ends (s : State) (regs : List Nat) (bytes : List (Nat × Byte)) : Bool :=
  let t := runOne s
  report t == regs && bytes.all (fun c => cellByte t .flat c.1 == c.2) && t.fault.isNone

/-! ### The vectors of the instruction families -/

/-- V41.1. -/
theorem test_lda_imm_zero : ends (core false 0x8000 0x55 0x00 0x00 0xFD 0x24 [0xA9, 0x00]
    []) [0x8002, 0x00, 0x00, 0x00, 0xFD, 0x26, 2] [] = true := by
  decide +kernel

/-- V41.3. -/
theorem test_lda_zpx_wraps : ends (core false 0x8000 0x00 0x20 0x00 0xFD 0x24 [0xB5, 0xF0]
    [(0x0010, 0x11), (0x0110, 0x99)]) [0x8002, 0x11, 0x20, 0x00, 0xFD, 0x24, 4] [] = true := by
  decide +kernel

/-- V41.4. -/
theorem test_lda_abx_crosses : ends (core false 0x8000 0x00 0x01 0x00 0xFD 0x24 [0xBD, 0xFF, 0x12]
    [(0x1300, 0x42)]) [0x8003, 0x42, 0x01, 0x00, 0xFD, 0x24, 5] [] = true := by
  decide +kernel

/-- V41.6. -/
theorem test_lda_abx_wraps_top : ends (core false 0x8000 0x00 0x02 0x00 0xFD 0x24 [0xBD, 0xFF, 0xFF]
    [(0x0001, 0x07)]) [0x8003, 0x07, 0x02, 0x00, 0xFD, 0x24, 5] [] = true := by
  decide +kernel

/-- V41.8. -/
theorem test_lda_izx_pointer_wraps : ends (core false 0x8000 0x00 0x00 0x00 0xFD 0x24 [0xA1, 0xFF]
    [(0x0000, 0x12), (0x00FF, 0x34), (0x1234, 0xAB)]) [0x8002, 0xAB, 0x00, 0x00, 0xFD, 0xA4, 6] [] = true := by
  decide +kernel

/-- V41.10. -/
theorem test_lda_izy_crosses : ends (core false 0x8000 0x00 0x00 0xE0 0xFD 0x24 [0xB1, 0x86]
    [(0x0086, 0x28), (0x0087, 0x40), (0x4108, 0x5A)]) [0x8002, 0x5A, 0x00, 0xE0, 0xFD, 0x24, 6] [] = true := by
  decide +kernel

/-- V41.13. -/
theorem test_ldx_zpy_wraps : ends (core false 0x8000 0x00 0x00 0xF5 0xFD 0x24 [0xB6, 0x10]
    [(0x0005, 0x09)]) [0x8002, 0x00, 0x09, 0xF5, 0xFD, 0x24, 4] [] = true := by
  decide +kernel

/-- V41.14. -/
theorem test_ldx_aby : ends (core false 0x8000 0x00 0x00 0x20 0xFD 0x24 [0xBE, 0xF0, 0x10]
    [(0x1110, 0x01)]) [0x8003, 0x00, 0x01, 0x20, 0xFD, 0x24, 5] [] = true := by
  decide +kernel

/-- V41.16. -/
theorem test_ldy_abx_crosses : ends (core false 0x8000 0x00 0x01 0x00 0xFD 0x24 [0xBC, 0xFF, 0x10]
    [(0x1100, 0xFE)]) [0x8003, 0x00, 0x01, 0xFE, 0xFD, 0xA4, 5] [] = true := by
  decide +kernel

/-- V41.17. -/
theorem test_sta_abx : ends (core false 0x8000 0x42 0x01 0x00 0xFD 0x24 [0x9D, 0x00, 0x03]
    []) [0x8003, 0x42, 0x01, 0x00, 0xFD, 0x24, 5] [(0x0301, 0x42)] = true := by
  decide +kernel

/-- V41.18. -/
theorem test_sta_izy : ends (core false 0x8000 0x99 0x00 0xFF 0xFD 0x24 [0x91, 0x80]
    [(0x0080, 0x01), (0x0081, 0x02)]) [0x8002, 0x99, 0x00, 0xFF, 0xFD, 0x24, 6] [(0x0300, 0x99)] = true := by
  decide +kernel

/-- V41.19. -/
theorem test_sta_izx : ends (core false 0x8000 0x99 0x7F 0x00 0xFD 0x24 [0x81, 0x80]
    [(0x0000, 0x04), (0x00FF, 0x00)]) [0x8002, 0x99, 0x7F, 0x00, 0xFD, 0x24, 6] [(0x0400, 0x99)] = true := by
  decide +kernel

/-- V41.20. -/
theorem test_stx_zpy_wraps : ends (core false 0x8000 0x00 0x07 0xFF 0xFD 0x24 [0x96, 0x01]
    []) [0x8002, 0x00, 0x07, 0xFF, 0xFD, 0x24, 4] [(0x0000, 0x07)] = true := by
  decide +kernel

/-- V41.21. -/
theorem test_sty_zpx_wraps : ends (core false 0x8000 0x00 0x02 0x33 0xFD 0x24 [0x94, 0xFF]
    []) [0x8002, 0x00, 0x02, 0x33, 0xFD, 0x24, 4] [(0x0001, 0x33)] = true := by
  decide +kernel

/-- V41.22. -/
theorem test_tax : ends (core false 0x8000 0x00 0x55 0x00 0xFD 0x24 [0xAA]
    []) [0x8001, 0x00, 0x00, 0x00, 0xFD, 0x26, 2] [] = true := by
  decide +kernel

/-- V41.23. -/
theorem test_tay : ends (core false 0x8000 0x90 0x00 0x00 0xFD 0x24 [0xA8]
    []) [0x8001, 0x90, 0x00, 0x90, 0xFD, 0xA4, 2] [] = true := by
  decide +kernel

/-- V41.24. -/
theorem test_txa : ends (core false 0x8000 0x00 0x01 0x00 0xFD 0x24 [0x8A]
    []) [0x8001, 0x01, 0x01, 0x00, 0xFD, 0x24, 2] [] = true := by
  decide +kernel

/-- V41.25. -/
theorem test_tya : ends (core false 0x8000 0x00 0x00 0xFF 0xFD 0x24 [0x98]
    []) [0x8001, 0xFF, 0x00, 0xFF, 0xFD, 0xA4, 2] [] = true := by
  decide +kernel

/-- V41.26. -/
theorem test_tsx : ends (core false 0x8000 0x00 0x00 0x00 0x00 0x24 [0xBA]
    []) [0x8001, 0x00, 0x00, 0x00, 0x00, 0x26, 2] [] = true := by
  decide +kernel

/-- V41.27. -/
theorem test_txs_no_flags : ends (core false 0x8000 0x00 0x00 0x00 0xFD 0xA4 [0x9A]
    []) [0x8001, 0x00, 0x00, 0x00, 0x00, 0xA4, 2] [] = true := by
  decide +kernel

/-- V42.3. -/
theorem test_adc_two_negatives : ends (core false 0x8000 0x80 0x00 0x00 0xFD 0x24 [0x69, 0x80]
    []) [0x8002, 0x00, 0x00, 0x00, 0xFD, 0x67, 2] [] = true := by
  decide +kernel

/-- V42.4. -/
theorem test_adc_carry_in : ends (core false 0x8000 0x7F 0x00 0x00 0xFD 0x25 [0x69, 0x00]
    []) [0x8002, 0x80, 0x00, 0x00, 0xFD, 0xE4, 2] [] = true := by
  decide +kernel

/-- V42.5. -/
theorem test_adc_decimal_ignored : ends (core false 0x8000 0x01 0x00 0x00 0xFD 0x2C [0x69, 0x01]
    []) [0x8002, 0x02, 0x00, 0x00, 0xFD, 0x2C, 2] [] = true := by
  decide +kernel

/-- V42.7. -/
theorem test_sbc_borrow : ends (core false 0x8000 0x00 0x00 0x00 0xFD 0x25 [0xE9, 0x01]
    []) [0x8002, 0xFF, 0x00, 0x00, 0xFD, 0xA4, 2] [] = true := by
  decide +kernel

/-- V42.8. -/
theorem test_sbc_overflow : ends (core false 0x8000 0x80 0x00 0x00 0xFD 0x25 [0xE9, 0x01]
    []) [0x8002, 0x7F, 0x00, 0x00, 0xFD, 0x65, 2] [] = true := by
  decide +kernel

/-- V42.10. -/
theorem test_and_imm : ends (core false 0x8000 0xF0 0x00 0x00 0xFD 0x24 [0x29, 0x3C]
    []) [0x8002, 0x30, 0x00, 0x00, 0xFD, 0x24, 2] [] = true := by
  decide +kernel

/-- V42.11. -/
theorem test_ora_imm : ends (core false 0x8000 0x00 0x00 0x00 0xFD 0x24 [0x09, 0x00]
    []) [0x8002, 0x00, 0x00, 0x00, 0xFD, 0x26, 2] [] = true := by
  decide +kernel

/-- V42.12. -/
theorem test_eor_imm : ends (core false 0x8000 0x0F 0x00 0x00 0xFD 0x24 [0x49, 0xFF]
    []) [0x8002, 0xF0, 0x00, 0x00, 0xFD, 0xA4, 2] [] = true := by
  decide +kernel

/-- V42.13. -/
theorem test_cmp_below : ends (core false 0x8000 0x10 0x00 0x00 0xFD 0x24 [0xC9, 0x20]
    []) [0x8002, 0x10, 0x00, 0x00, 0xFD, 0xA4, 2] [] = true := by
  decide +kernel

/-- V42.15. -/
theorem test_cmp_keeps_v : ends (core false 0x8000 0x7F 0x00 0x00 0xFD 0x64 [0xC9, 0x80]
    []) [0x8002, 0x7F, 0x00, 0x00, 0xFD, 0xE4, 2] [] = true := by
  decide +kernel

/-- V42.16. -/
theorem test_cpx_equal : ends (core false 0x8000 0x00 0x05 0x00 0xFD 0x24 [0xE0, 0x05]
    []) [0x8002, 0x00, 0x05, 0x00, 0xFD, 0x27, 2] [] = true := by
  decide +kernel

/-- V42.17. -/
theorem test_cpy_above : ends (core false 0x8000 0x00 0x00 0xFF 0xFD 0x24 [0xC0, 0x00]
    []) [0x8002, 0x00, 0x00, 0xFF, 0xFD, 0xA5, 2] [] = true := by
  decide +kernel

/-- V42.18. -/
theorem test_bit_zp : ends (core false 0x8000 0x01 0x00 0x00 0xFD 0x24 [0x24, 0x10]
    [(0x0010, 0xC0)]) [0x8002, 0x01, 0x00, 0x00, 0xFD, 0xE6, 3] [] = true := by
  decide +kernel

/-- V42.19. -/
theorem test_bit_abs_clears : ends (core false 0x8000 0xFF 0x00 0x00 0xFD 0xE4 [0x2C, 0x00, 0x02]
    [(0x0200, 0x01)]) [0x8003, 0xFF, 0x00, 0x00, 0xFD, 0x24, 4] [] = true := by
  decide +kernel

/-- V42.21. -/
theorem test_inc_abs_wraps : ends (core false 0x8000 0x00 0x00 0x00 0xFD 0x24 [0xEE, 0x00, 0x02]
    [(0x0200, 0xFF)]) [0x8003, 0x00, 0x00, 0x00, 0xFD, 0x26, 6] [(0x0200, 0x00)] = true := by
  decide +kernel

/-- V42.22. -/
theorem test_inc_abx : ends (core false 0x8000 0x00 0x10 0x00 0xFD 0x24 [0xFE, 0x00, 0x02]
    [(0x0210, 0x01)]) [0x8003, 0x00, 0x10, 0x00, 0xFD, 0x24, 7] [(0x0210, 0x02)] = true := by
  decide +kernel

/-- V42.24. -/
theorem test_dec_zpx_wraps : ends (core false 0x8000 0x00 0x02 0x00 0xFD 0x24 [0xD6, 0xFF]
    [(0x0001, 0x00)]) [0x8002, 0x00, 0x02, 0x00, 0xFD, 0xA4, 6] [(0x0001, 0xFF)] = true := by
  decide +kernel

/-- V42.25. -/
theorem test_inx : ends (core false 0x8000 0x00 0x7F 0x00 0xFD 0x24 [0xE8]
    []) [0x8001, 0x00, 0x80, 0x00, 0xFD, 0xA4, 2] [] = true := by
  decide +kernel

/-- V42.26. -/
theorem test_iny : ends (core false 0x8000 0x00 0x00 0xFF 0xFD 0x24 [0xC8]
    []) [0x8001, 0x00, 0x00, 0x00, 0xFD, 0x26, 2] [] = true := by
  decide +kernel

/-- V42.27. -/
theorem test_dex : ends (core false 0x8000 0x00 0x00 0x00 0xFD 0x24 [0xCA]
    []) [0x8001, 0x00, 0xFF, 0x00, 0xFD, 0xA4, 2] [] = true := by
  decide +kernel

/-- V42.28. -/
theorem test_dey : ends (core false 0x8000 0x00 0x00 0x80 0xFD 0x24 [0x88]
    []) [0x8001, 0x00, 0x00, 0x7F, 0xFD, 0x24, 2] [] = true := by
  decide +kernel

/-- V43.2. -/
theorem test_asl_acc : ends (core false 0x8000 0x80 0x00 0x00 0xFD 0x24 [0x0A]
    []) [0x8001, 0x00, 0x00, 0x00, 0xFD, 0x27, 2] [] = true := by
  decide +kernel

/-- V43.4. -/
theorem test_lsr_acc : ends (core false 0x8000 0x01 0x00 0x00 0xFD 0xA4 [0x4A]
    []) [0x8001, 0x00, 0x00, 0x00, 0xFD, 0x27, 2] [] = true := by
  decide +kernel

/-- V43.5. -/
theorem test_rol_acc : ends (core false 0x8000 0x40 0x00 0x00 0xFD 0x25 [0x2A]
    []) [0x8001, 0x81, 0x00, 0x00, 0xFD, 0xA4, 2] [] = true := by
  decide +kernel

/-- V43.7. -/
theorem test_ror_acc : ends (core false 0x8000 0x00 0x00 0x00 0xFD 0x25 [0x6A]
    []) [0x8001, 0x80, 0x00, 0x00, 0xFD, 0xA4, 2] [] = true := by
  decide +kernel

/-- V43.8. -/
theorem test_ror_zp : ends (core false 0x8000 0x00 0x00 0x00 0xFD 0x24 [0x66, 0x10]
    [(0x0010, 0x01)]) [0x8002, 0x00, 0x00, 0x00, 0xFD, 0x27, 5] [(0x0010, 0x00)] = true := by
  decide +kernel

/-- V43.10. -/
theorem test_asl_abx : ends (core false 0x8000 0x00 0x01 0x00 0xFD 0x24 [0x1E, 0xFF, 0x01]
    [(0x0200, 0x81)]) [0x8003, 0x00, 0x01, 0x00, 0xFD, 0x25, 7] [(0x0200, 0x02)] = true := by
  decide +kernel

/-- V43.11. -/
theorem test_rol_zpx : ends (core false 0x8000 0x00 0x05 0x00 0xFD 0x25 [0x36, 0x80]
    [(0x0085, 0x80)]) [0x8002, 0x00, 0x05, 0x00, 0xFD, 0x25, 6] [(0x0085, 0x01)] = true := by
  decide +kernel

/-- V43.12. -/
theorem test_lsr_abs : ends (core false 0x8000 0x00 0x00 0x00 0xFD 0x24 [0x4E, 0x00, 0x03]
    [(0x0300, 0x02)]) [0x8003, 0x00, 0x00, 0x00, 0xFD, 0x24, 6] [(0x0300, 0x01)] = true := by
  decide +kernel

/-- V44.1. -/
theorem test_bcc_taken : ends (core false 0x8000 0x00 0x00 0x00 0xFD 0x24 [0x90, 0x02]
    []) [0x8004, 0x00, 0x00, 0x00, 0xFD, 0x24, 3] [] = true := by
  decide +kernel

/-- V44.2. -/
theorem test_bcs_not_taken : ends (core false 0x8000 0x00 0x00 0x00 0xFD 0x24 [0xB0, 0x02]
    []) [0x8002, 0x00, 0x00, 0x00, 0xFD, 0x24, 2] [] = true := by
  decide +kernel

/-- V44.3. -/
theorem test_beq_crosses : ends (core false 0x80F0 0x00 0x00 0x00 0xFD 0x26 [0xF0, 0x10]
    []) [0x8102, 0x00, 0x00, 0x00, 0xFD, 0x26, 4] [] = true := by
  decide +kernel

/-- V44.4. -/
theorem test_bne_back : ends (core false 0x8010 0x00 0x00 0x00 0xFD 0x24 [0xD0, 0xFC]
    []) [0x800E, 0x00, 0x00, 0x00, 0xFD, 0x24, 3] [] = true := by
  decide +kernel

/-- V44.6. -/
theorem test_bmi_back_crosses : ends (core false 0x8100 0x00 0x00 0x00 0xFD 0xA4 [0x30, 0x80]
    []) [0x8082, 0x00, 0x00, 0x00, 0xFD, 0xA4, 4] [] = true := by
  decide +kernel

/-- V44.7. -/
theorem test_bpl_back : ends (core false 0x8003 0x00 0x00 0x00 0xFD 0x24 [0x10, 0xFB]
    []) [0x8000, 0x00, 0x00, 0x00, 0xFD, 0x24, 3] [] = true := by
  decide +kernel

/-- V44.8. -/
theorem test_bvc_not_taken : ends (core false 0x8000 0x00 0x00 0x00 0xFD 0x64 [0x50, 0x10]
    []) [0x8002, 0x00, 0x00, 0x00, 0xFD, 0x64, 2] [] = true := by
  decide +kernel

/-- V44.9. -/
theorem test_bvs_taken : ends (core false 0x8000 0x00 0x00 0x00 0xFD 0x64 [0x70, 0x00]
    []) [0x8002, 0x00, 0x00, 0x00, 0xFD, 0x64, 3] [] = true := by
  decide +kernel

/-- V44.11. -/
theorem test_jmp_abs : ends (core false 0x8000 0x00 0x00 0x00 0xFD 0x24 [0x4C, 0x34, 0x12]
    []) [0x1234, 0x00, 0x00, 0x00, 0xFD, 0x24, 3] [] = true := by
  decide +kernel

/-- V44.12. -/
theorem test_jmp_ind_page_wrap : ends (core false 0x8000 0x00 0x00 0x00 0xFD 0x24 [0x6C, 0xFF, 0x02]
    [(0x0200, 0x80), (0x02FF, 0x00), (0x0300, 0x90)]) [0x8000, 0x00, 0x00, 0x00, 0xFD, 0x24, 5] [] = true := by
  decide +kernel

/-- V44.14. -/
theorem test_jsr : ends (core false 0xC000 0x00 0x00 0x00 0xFD 0x24 [0x20, 0x00, 0x90]
    []) [0x9000, 0x00, 0x00, 0x00, 0xFB, 0x24, 6] [(0x01FC, 0x02), (0x01FD, 0xC0)] = true := by
  decide +kernel

/-- V44.15. -/
theorem test_jsr_stack_wraps : ends (core false 0xC000 0x00 0x00 0x00 0x00 0x24 [0x20, 0x00, 0x90]
    []) [0x9000, 0x00, 0x00, 0x00, 0xFE, 0x24, 6] [(0x0100, 0xC0), (0x01FF, 0x02)] = true := by
  decide +kernel

/-- V44.16. -/
theorem test_rts : ends (core false 0x8000 0x00 0x00 0x00 0xFB 0x24 [0x60]
    [(0x01FC, 0x02), (0x01FD, 0xC0)]) [0xC003, 0x00, 0x00, 0x00, 0xFD, 0x24, 6] [] = true := by
  decide +kernel

/-- V44.17. -/
theorem test_rts_wraps : ends (core false 0x8000 0x00 0x00 0x00 0xFE 0x24 [0x60]
    [(0x0100, 0xFF), (0x01FF, 0xFF)]) [0x0000, 0x00, 0x00, 0x00, 0x00, 0x24, 6] [] = true := by
  decide +kernel

/-- V44.18. -/
theorem test_rti : ends (core false 0x8000 0x00 0x00 0x00 0xFA 0x24 [0x40]
    [(0x01FB, 0xA1), (0x01FC, 0x34), (0x01FD, 0x12)]) [0x1234, 0x00, 0x00, 0x00, 0xFD, 0xA1, 6] [] = true := by
  decide +kernel

/-- V44.19. -/
theorem test_rti_clears_i : ends (core false 0x8000 0x00 0x00 0x00 0xFA 0x24 [0x40]
    [(0x01FB, 0x30), (0x01FC, 0x00), (0x01FD, 0x80)]) [0x8000, 0x00, 0x00, 0x00, 0xFD, 0x20, 6] [] = true := by
  decide +kernel

/-- V44.20. -/
theorem test_brk : ends (core false 0x8000 0x00 0x00 0x00 0xFD 0x24 [0x00, 0xEA]
    [(0xFFFE, 0x00), (0xFFFF, 0x90)]) [0x9000, 0x00, 0x00, 0x00, 0xFA, 0x24, 7]
    [(0x01FB, 0x34), (0x01FC, 0x02), (0x01FD, 0x80)] = true := by
  decide +kernel

/-- V44.22. -/
theorem test_nop : ends (core false 0x8000 0x00 0x00 0x00 0xFD 0x24 [0xEA]
    []) [0x8001, 0x00, 0x00, 0x00, 0xFD, 0x24, 2] [] = true := by
  decide +kernel

/-- V45.2. -/
theorem test_pha_wraps : ends (core false 0x8000 0x01 0x00 0x00 0x00 0x24 [0x48]
    []) [0x8001, 0x01, 0x00, 0x00, 0xFF, 0x24, 3] [(0x0100, 0x01)] = true := by
  decide +kernel

/-- V45.4. -/
theorem test_php : ends (core false 0x8000 0x00 0x00 0x00 0xFD 0xEF [0x08]
    []) [0x8001, 0x00, 0x00, 0x00, 0xFC, 0xEF, 3] [(0x01FD, 0xFF)] = true := by
  decide +kernel

/-- V45.6. -/
theorem test_pla : ends (core false 0x8000 0x00 0x00 0x00 0xFC 0x24 [0x68]
    [(0x01FD, 0x80)]) [0x8001, 0x80, 0x00, 0x00, 0xFD, 0xA4, 4] [] = true := by
  decide +kernel

/-- V45.7. -/
theorem test_plp : ends (core false 0x8000 0x00 0x00 0x00 0xFC 0x24 [0x28]
    [(0x01FD, 0xFF)]) [0x8001, 0x00, 0x00, 0x00, 0xFD, 0xEF, 4] [] = true := by
  decide +kernel

/-- V45.9. -/
theorem test_clc : ends (core false 0x8000 0x00 0x00 0x00 0xFD 0x25 [0x18]
    []) [0x8001, 0x00, 0x00, 0x00, 0xFD, 0x24, 2] [] = true := by
  decide +kernel

/-- V45.10. -/
theorem test_sec : ends (core false 0x8000 0x00 0x00 0x00 0xFD 0x24 [0x38]
    []) [0x8001, 0x00, 0x00, 0x00, 0xFD, 0x25, 2] [] = true := by
  decide +kernel

/-- V45.11. -/
theorem test_cli : ends (core false 0x8000 0x00 0x00 0x00 0xFD 0x24 [0x58]
    []) [0x8001, 0x00, 0x00, 0x00, 0xFD, 0x20, 2] [] = true := by
  decide +kernel

/-- V45.12. -/
theorem test_sei : ends (core false 0x8000 0x00 0x00 0x00 0xFD 0x20 [0x78]
    []) [0x8001, 0x00, 0x00, 0x00, 0xFD, 0x24, 2] [] = true := by
  decide +kernel

/-- V45.13. -/
theorem test_cld : ends (core false 0x8000 0x00 0x00 0x00 0xFD 0x2C [0xD8]
    []) [0x8001, 0x00, 0x00, 0x00, 0xFD, 0x24, 2] [] = true := by
  decide +kernel

/-- V45.14. -/
theorem test_sed : ends (core false 0x8000 0x00 0x00 0x00 0xFD 0x24 [0xF8]
    []) [0x8001, 0x00, 0x00, 0x00, 0xFD, 0x2C, 2] [] = true := by
  decide +kernel

/-- V45.15. -/
theorem test_clv : ends (core false 0x8000 0x00 0x00 0x00 0xFD 0x64 [0xB8]
    []) [0x8001, 0x00, 0x00, 0x00, 0xFD, 0x24, 2] [] = true := by
  decide +kernel

/-- V46.2. -/
theorem test_lax_aby_crosses : ends (core false 0x8000 0x00 0x00 0x01 0xFD 0x24 [0xBF, 0xFF, 0x02]
    [(0x0300, 0x00)]) [0x8003, 0x00, 0x00, 0x01, 0xFD, 0x26, 5] [] = true := by
  decide +kernel

/-- V46.3. -/
theorem test_lax_izy : ends (core false 0x8000 0x00 0x00 0x01 0xFD 0x24 [0xB3, 0x10]
    [(0x0010, 0xFF), (0x0011, 0x01), (0x0200, 0x7F)]) [0x8002, 0x7F, 0x7F, 0x01, 0xFD, 0x24, 6] [] = true := by
  decide +kernel

/-- V46.5. -/
theorem test_sax_zpy : ends (core false 0x8000 0xFF 0x0F 0x02 0xFD 0x24 [0x97, 0xFF]
    []) [0x8002, 0xFF, 0x0F, 0x02, 0xFD, 0x24, 4] [(0x0001, 0x0F)] = true := by
  decide +kernel

/-- V46.6. -/
theorem test_sax_izx : ends (core false 0x8000 0x81 0x81 0x00 0xFD 0x24 [0x83, 0x00]
    [(0x0081, 0x00), (0x0082, 0x03)]) [0x8002, 0x81, 0x81, 0x00, 0xFD, 0x24, 6] [(0x0300, 0x81)] = true := by
  decide +kernel

/-- V46.8. -/
theorem test_usbc : ends (core false 0x8000 0x7F 0x00 0x00 0xFD 0x25 [0xEB, 0x80]
    []) [0x8002, 0xFF, 0x00, 0x00, 0xFD, 0xE4, 2] [] = true := by
  decide +kernel

/-- V46.10. -/
theorem test_dcp_zp : ends (core false 0x8000 0x40 0x00 0x00 0xFD 0x24 [0xC7, 0x10]
    [(0x0010, 0x00)]) [0x8002, 0x40, 0x00, 0x00, 0xFD, 0x24, 5] [(0x0010, 0xFF)] = true := by
  decide +kernel

/-- V46.11. -/
theorem test_dcp_aby : ends (core false 0x8000 0x00 0x00 0x01 0xFD 0x24 [0xDB, 0xFF, 0x00]
    [(0x0100, 0x01)]) [0x8003, 0x00, 0x00, 0x01, 0xFD, 0x27, 7] [(0x0100, 0x00)] = true := by
  decide +kernel

/-- V46.12. -/
theorem test_isb_zp : ends (core false 0x8000 0x05 0x00 0x00 0xFD 0x25 [0xE7, 0x10]
    [(0x0010, 0x02)]) [0x8002, 0x02, 0x00, 0x00, 0xFD, 0x25, 5] [(0x0010, 0x03)] = true := by
  decide +kernel

/-- V46.14. -/
theorem test_slo_zp : ends (core false 0x8000 0x01 0x00 0x00 0xFD 0x24 [0x07, 0x10]
    [(0x0010, 0x81)]) [0x8002, 0x03, 0x00, 0x00, 0xFD, 0x25, 5] [(0x0010, 0x02)] = true := by
  decide +kernel

/-- V46.15. -/
theorem test_rla_zp : ends (core false 0x8000 0xFF 0x00 0x00 0xFD 0x25 [0x27, 0x10]
    [(0x0010, 0x80)]) [0x8002, 0x01, 0x00, 0x00, 0xFD, 0x25, 5] [(0x0010, 0x01)] = true := by
  decide +kernel

/-- V46.16. -/
theorem test_sre_zp : ends (core false 0x8000 0xFF 0x00 0x00 0xFD 0x24 [0x47, 0x10]
    [(0x0010, 0x03)]) [0x8002, 0xFE, 0x00, 0x00, 0xFD, 0xA5, 5] [(0x0010, 0x01)] = true := by
  decide +kernel

/-- V46.18. -/
theorem test_rra_izx : ends (core false 0x8000 0x7F 0x02 0x00 0xFD 0x24 [0x63, 0x00]
    [(0x0002, 0x00), (0x0003, 0x04), (0x0400, 0x02)]) [0x8002, 0x80, 0x02, 0x00, 0xFD, 0xE4, 8]
    [(0x0400, 0x01)] = true := by
  decide +kernel

/-- V46.20. -/
theorem test_nop_imm : ends (core false 0x8000 0x00 0x00 0x00 0xFD 0x24 [0x80, 0x55]
    []) [0x8002, 0x00, 0x00, 0x00, 0xFD, 0x24, 2] [] = true := by
  decide +kernel

/-- V46.24. -/
theorem test_nop_abx_crosses : ends (core false 0x8000 0x00 0x01 0x00 0xFD 0x24 [0x1C, 0xFF, 0x00]
    []) [0x8003, 0x00, 0x01, 0x00, 0xFD, 0x24, 5] [] = true := by
  decide +kernel

/-- V46.28. -/
theorem test_anc_0b : ends (core true 0x8000 0xFF 0x00 0x00 0xFD 0x24 [0x0B, 0x80]
    []) [0x8002, 0x80, 0x00, 0x00, 0xFD, 0xA5, 2] [] = true := by
  decide +kernel

/-- V46.29. -/
theorem test_anc_2b : ends (core true 0x8000 0xFF 0x00 0x00 0xFD 0x25 [0x2B, 0x7F]
    []) [0x8002, 0x7F, 0x00, 0x00, 0xFD, 0x24, 2] [] = true := by
  decide +kernel

/-- V46.30. -/
theorem test_alr : ends (core true 0x8000 0x03 0x00 0x00 0xFD 0x24 [0x4B, 0x03]
    []) [0x8002, 0x01, 0x00, 0x00, 0xFD, 0x25, 2] [] = true := by
  decide +kernel

/-- V46.32. -/
theorem test_arr : ends (core true 0x8000 0xFF 0x00 0x00 0xFD 0x24 [0x6B, 0x80]
    []) [0x8002, 0x40, 0x00, 0x00, 0xFD, 0x65, 2] [] = true := by
  decide +kernel

/-- V46.33. -/
theorem test_arr_bit5 : ends (core true 0x8000 0xFF 0x00 0x00 0xFD 0x24 [0x6B, 0x40]
    []) [0x8002, 0x20, 0x00, 0x00, 0xFD, 0x64, 2] [] = true := by
  decide +kernel

/-- V46.34. -/
theorem test_sbx : ends (core true 0x8000 0x0F 0xFF 0x00 0xFD 0x24 [0xCB, 0x05]
    []) [0x8002, 0x0F, 0x0A, 0x00, 0xFD, 0x25, 2] [] = true := by
  decide +kernel

/-- V46.37. -/
theorem test_las_crosses : ends (core true 0x8000 0x00 0x00 0x01 0xF0 0x24 [0xBB, 0xFF, 0x02]
    [(0x0300, 0xFF)]) [0x8003, 0xF0, 0xF0, 0x01, 0xF0, 0xA4, 5] [] = true := by
  decide +kernel


/-- V46.27, V46.38 to V46.44: a slot faults after the opcode's cycle, PC past it; the unstable ones with
EXTRA_UNOFFICIAL too. -/
theorem test_slots_fault : ([0x8B, 0xAB, 0x93, 0x9F, 0x9E, 0x9C, 0x9B].map fun op =>
    let t := runOne (core true 0x8000 0 0 0 0xFD 0x24 [op] [])
    (report t, t.fault)).all (· == ([0x8001, 0, 0, 0, 0xFD, 0x24, 1], some .unimplementedOpcode)) = true ∧
    (let t := runOne (core false 0x8000 0xFF 0 0 0xFD 0x24 [0x0B, 0x80] [])
     (report t, t.fault) = ([0x8001, 0xFF, 0, 0, 0xFD, 0x24, 1], some .unimplementedOpcode)) := by decide +kernel

/-- V46.26, V60.13, V60.12: a JAM traps after one cycle; a trapped step is one idle cycle; a faulted core does not
step. -/
theorem test_jam_and_stops :
    let t := runOne (core false 0x8000 0 0 0 0xFD 0x24 [0x02] [])
    let u := runOne { t with nmiPending := true }
    let f := { t with fault := some .unimplementedOpcode }
    (report t, t.trapped) = ([0x8001, 0, 0, 0, 0xFD, 0x24, 1], true) ∧
    (report u, u.trapped, u.nmiPending) = ([0x8001, 0, 0, 0, 0xFD, 0x24, 1], true, true) ∧
    (runOne f).cycles = f.cycles := by decide +kernel

/-! ### Decoding, well-formedness, encoding -/

/-- Words written from the encoding tables of 30_encoding.md, two of each family: the opcode is row and column,
`op[7:4]` and `op[3:0]` of R204 to R207; a two-byte operand has its low byte first (R202). -/
theorem test_decode_words :
    decode [0b10100001, 0x44] = .ok (.ldaIzx 0x44, []) ∧ decode [0b10010110, 0x01] = .ok (.stxZpy 0x01, []) ∧
    decode [0b01101101, 0x78, 0x56] = .ok (.adcAbs 0x5678, []) ∧ decode [0b00100100, 0x10] = .ok (.bitZp 0x10, []) ∧
    decode [0b01111110, 0x01, 0x02] = .ok (.rorAbx 0x0201, []) ∧ decode [0b01010000, 0x80] = .ok (.bvcRel 0x80, []) ∧
    decode [0b00100000, 0x34, 0x12, 0xEA] = .ok (.jsrAbs 0x1234, [0xEA]) ∧ decode [0b00000000] = .ok (.brk, []) ∧
    decode [0b00101000] = .ok (.plp, []) ∧ decode [0b10111000] = .ok (.clv, []) ∧
    decode [0b11011011, 0xFF, 0x00] = .ok (.dcpAby 0x00FF, []) ∧ decode [0b11110010] = .ok (.jamF2, []) :=
  ⟨rfl, rfl, rfl, rfl, rfl, rfl, rfl, rfl, rfl, rfl, rfl, rfl⟩

/-- The decoder refuses a string that is too short, by name (30_encoding.md R203). -/
theorem test_decode_refuses : decode [] = .error .noBytes ∧ decode [0xA9] = .error (.missingOperand 0xA9) ∧
    decode [0x9D, 0x34] = .error (.missingOperand 0x9D) := ⟨rfl, rfl, rfl⟩

/-- The well-formedness check refuses every kind of ill-formed parameters, and accepts the defaults and any stall
(00_scope.md R10). -/
theorem test_ill_formed_params :
    ({ Params.default with fcOffsets4 := { o1 := 0, o2 := 2, o3 := 3, o4 := 4 } } : Params).wellFormed = false ∧
    ({ Params.default with fcOffsets4 := { o1 := 2, o2 := 2, o3 := 3, o4 := 4 } } : Params).wellFormed = false ∧
    ({ Params.default with fcOffsets4 := { o1 := 1, o2 := 3, o3 := 3, o4 := 4 } } : Params).wellFormed = false ∧
    ({ Params.default with fcOffsets5 := { o1 := 1, o2 := 2, o3 := 4, o4 := 4 } } : Params).wellFormed = false ∧
    ({ Params.default with mapperIds := [(1, .fixed), (2, .fixed), (1, .shiftRegister)] } : Params).wellFormed = false ∧
    ({ Params.default with mapperIds := [(256, .fixed)] } : Params).wellFormed = false ∧
    ({ Params.default with dmcStallCycles := 1000000 } : Params).wellFormed = true ∧
    Params.default.wellFormed = true := by decide

/-- Every instruction term is well formed, and a memory that is not canonical is refused (log entry 2). -/
theorem test_ill_formed_memory : (Instr.ldaImm 0x10).wellFormed = true ∧ Memory.wf 4 [(0, 1), (3, 0)] = true ∧
    Memory.wf 4 [(4, 1)] = false ∧ Memory.wf 4 [(1, 1), (1, 2)] = false ∧ Memory.wf 4 [(2, 1), (1, 2)] = false := by
  decide

/-- A table word placed where the step fetches runs first: LDA #$10; and ADC abs,X, with zero operands beyond the bits
given (log entry 12). -/
theorem test_with_fetch_word : (runOne (State.reset.withFetchWord 16 0x10A9)).regs.a = 0x10 ∧
    (runOne (State.reset.withFetchWord 16 0x10A9)).regs.pc = 0xC002 ∧
    decodeTableWord 24 0x12347D = some (.adcAbx 0x1234) ∧ decodeTableWord 8 0x7D = some (.adcAbx 0) := by
  decide +kernel

/-! ### Interrupts -/

/-- A console core at 0x8000 with the vectors of 95_test_vectors.md section 2.7. -/
def consoleCore (p sp : Byte) (irq nmi : Bool) (program : List Byte) (ram : List (Nat × Byte)) : State :=
  { State.reset with
    regs := { a := 0, x := 0, y := 0, s := sp, pc := 0x8000, p := Flags.ofByte p }
    iPoll := (Flags.ofByte p).i
    nmiPending := nmi
    apu := { State.reset.apu with frameIrq := irq }
    ram := listed ram
    cart := { Cart.reset with prg := listed (code 0 program ++ code 0x3FFA [0x00, 0xA0, 0x00, 0x80, 0x00, 0x90]) } }

/-- PC, S, P, cycles, and the three stack bytes at 0x01FB and up. -/
def reportEntry (s : State) : List Nat :=
  [s.regs.pc.toNat, s.regs.s.toNat, s.regs.p.toByte.toNat, s.delta, (cellByte s .ram 0x1FB).toNat,
    (cellByte s .ram 0x1FC).toNat, (cellByte s .ram 0x1FD).toNat]

/-- V60.1, V60.2: an IRQ after a NOP, and its mask. -/
theorem test_irq_entry : reportEntry (runOne (consoleCore 0x20 0xFD true false [0xEA] [])) =
      [0x9000, 0xFA, 0x24, 9, 0x20, 0x01, 0x80] ∧
    (let t := runOne (consoleCore 0x24 0xFD true false [0xEA] [])
     [t.regs.pc.toNat, t.regs.s.toNat, t.delta] = [0x8001, 0xFD, 2]) := by decide +kernel

/-- V60.3, V60.4: the I of SEI and CLI is late. -/
theorem test_late_i : reportEntry (runOne (consoleCore 0x20 0xFD true false [0x78] [])) =
      [0x9000, 0xFA, 0x24, 9, 0x24, 0x01, 0x80] ∧
    (let t := runOne (consoleCore 0x24 0xFD true false [0x58, 0xEA] [])
     [t.regs.pc.toNat, t.regs.s.toNat, t.regs.p.toByte.toNat, t.delta] = [0x8001, 0xFD, 0x20, 2] ∧
       t.prevCli = true) := by decide +kernel

/-- V60.6: an NMI wins over an IRQ, and is not pending afterwards. -/
theorem test_nmi_wins : let t := runOne (consoleCore 0x20 0xFD true true [0xEA] [])
    reportEntry t = [0xA000, 0xFA, 0x24, 9, 0x20, 0x01, 0x80] ∧ t.nmiPending = false := by decide +kernel

/-- V60.7: a pending NMI takes over a BRK. -/
theorem test_brk_hijacked : let t := runOne (consoleCore 0x24 0xFD false true [0x00, 0xEA] [])
    reportEntry t = [0xA000, 0xFA, 0x24, 7, 0x34, 0x02, 0x80] ∧ t.nmiPending = false := by decide +kernel

/-- V60.8, V60.11: the check after an RTI that follows CLI skips the IRQ; any other RTI's I applies at once. -/
theorem test_rti_after_cli :
    (let t := runOne { consoleCore 0x20 0xFA true false [0x40] [(0x1FB, 0x20), (0x1FC, 0x00), (0x1FD, 0x85)] with
        prevCli := true }
     [t.regs.pc.toNat, t.regs.s.toNat, t.regs.p.toByte.toNat, t.delta] = [0x8500, 0xFD, 0x20, 6]) ∧
    reportEntry (runOne (consoleCore 0x24 0xFA true false [0x40] [(0x1FB, 0x20), (0x1FC, 0x00), (0x1FD, 0x85)])) =
      [0x9000, 0xFA, 0x24, 13, 0x20, 0x00, 0x85] := by decide +kernel

/-! ### The bus -/

/-- V20.1, V20.2: RAM and the PPU registers are mirrored. -/
theorem test_mirrors : (busRead 0x1801 (busWrite 0x0801 0x55 State.reset)).1 = 0x55 ∧
    (busWrite 0x3FF8 0x80 State.reset).ppu.ctrl = 0x80 := by decide +kernel

/-- V20.3, V20.4: an undriven read draws and changes nothing else; an undriven write changes nothing. -/
theorem test_unmapped :
    (busRead 0x4000 State.reset).2 = { State.reset with draws := { openBus := 1, buttons := 0 } } ∧
    busWrite 0x4018 0x12 State.reset = State.reset := ⟨rfl, rfl⟩

/-- V20.6: a vector is read low byte first. -/
theorem test_vector_order :
    (loadVector 0xFFFC (core false 0x8000 0 0 0 0xFD 0x24 [] [(0xFFFC, 0x34), (0xFFFD, 0x12)])).regs.pc = 0x1234 := by
  decide +kernel

/-- The reset state with another mirroring and VRAM address. -/
def withMirroring (m : Mirroring) (v : BitVec 15) : State :=
  { State.reset with cart := { Cart.reset with mirroring := m }, ppu := { State.reset.ppu with v := v } }

/-- V20.7 to V20.10: the cell a nametable write goes to. -/
theorem test_nametables :
    cellByte (busWrite 0x2007 0xAB (withMirroring .horizontal 0x2400)) .vram 0 = 0xAB ∧
    cellByte (busWrite 0x2007 0xCD (withMirroring .vertical 0x2800)) .vram 0 = 0xCD ∧
    cellByte (busWrite 0x2007 0xEF (withMirroring .singleScreenHigh 0x2000)) .vram 0x400 = 0xEF ∧
    cellByte (busWrite 0x2007 0x77 (withMirroring .vertical 0x3123)) .vram 0x123 = 0x77 := by decide +kernel

/-! ### The PPU -/

/-- A core with the PPU changed. -/
def withPpu (f : Ppu → Ppu) : State := { State.reset with ppu := f State.reset.ppu }

/-- V61.1 to V61.5: PPUSCROLL, PPUADDR and PPUCTRL writes. -/
theorem test_scroll_writes :
    let s1 := busWrite 0x2005 0x7D State.reset
    let s2 := busWrite 0x2005 0x5E s1
    let s3 := busWrite 0x2006 0x3D s2
    let s4 := busWrite 0x2006 0xF0 s3
    (s1.ppu.t, s1.ppu.x, s1.ppu.w) = (0x000F, 5, true) ∧ (s2.ppu.t, s2.ppu.w) = (0x616F, false) ∧
    (s3.ppu.t, s3.ppu.w) = (0x3D6F, true) ∧ (s4.ppu.t, s4.ppu.v, s4.ppu.w) = (0x3DF0, 0x3DF0, false) ∧
    (busWrite 0x2000 0x03 State.reset).ppu.t = 0x0C00 := by decide +kernel

/-- V61.6: a PPUSTATUS read. -/
theorem test_status_read :
    let r := busRead 0x2002 (withPpu fun p => { p with vblank := true, latch := 0x1F, w := true })
    r.1 = 0x9F ∧ (r.2.ppu.vblank, r.2.ppu.w, r.2.ppu.latch) = (false, false, 0x9F) := by decide +kernel

/-- V61.7, V61.8: buffered PPUDATA reads, and a palette read. -/
theorem test_data_reads :
    let s := withPpu fun p => { p with v := 0x2000, buffer := 0x11, vram := [(0, 0xAA), (1, 0xBB)] }
    let r1 := busRead 0x2007 s
    let r2 := busRead 0x2007 r1.2
    let r3 := busRead 0x2007 (withPpu fun p =>
      { p with v := 0x3F00, buffer := 0x11, palette := [(0, 0x0F)], vram := [(0x700, 0xCC)] })
    (r1.1, r2.1, r2.2.ppu.buffer, r2.2.ppu.v) = (0x11, 0xAA, 0xBB, 0x2002) ∧
    (r3.1, r3.2.ppu.buffer, r3.2.ppu.v) = (0x0F, 0xCC, 0x3F01) := by decide +kernel

/-- V61.9, V61.10: the palette aliases, through the registers. -/
theorem test_palette_alias :
    let put := fun (hi lo v : Byte) (s : State) => busWrite 0x2007 v (busWrite 0x2006 lo (busWrite 0x2006 hi s))
    let get := fun (hi lo : Byte) (s : State) => (busRead 0x2007 (busWrite 0x2006 lo (busWrite 0x2006 hi s))).1
    get 0x3F 0x00 (put 0x3F 0x10 0x2A State.reset) = 0x2A ∧
    get 0x3F 0x14 (put 0x3F 0x04 0x15 State.reset) = 0x15 := by
  decide +kernel

/-- V61.11 to V61.14: the scroll increments and the fetch addresses. -/
theorem test_scroll_arithmetic :
    [incX 0x001F, incX 0x041F, incX 0x0005] = [0x0400, 0x0000, 0x0006] ∧
    [incY 0x73A0, incY 0x73E0, incY 0x0000, incY 0x7BA0] = [0x0800, 0x0000, 0x1000, 0x0000] ∧
    (ntAddr 0x0125, atAddr 0x0125, atBits 0x0125 0xE4, ntAddr 0x7FFF) = (0x2125, 0x23D1, 0, 0x2FFF) := by decide

/-- V61.15, V61.16: OAMDATA, and the NMI-enable edge of PPUCTRL. -/
theorem test_oamdata_and_nmi_edge :
    let s := busWrite 0x2004 0x12 (withPpu fun p => { p with oamaddr := 0xFF })
    let u := busWrite 0x2000 0x80 (withPpu fun p => { p with vblank := true })
    (cellByte s .oam 0xFF, s.ppu.oamaddr) = (0x12, 0) ∧ u.nmiPending = true ∧
    (busWrite 0x2000 0x80 { u with nmiPending := false }).nmiPending = false := by decide +kernel

/-- V61.19: (241, 0) changes no flag; (241, 1) sets vblank and requests the NMI. -/
theorem test_vblank :
    let s := withPpu fun p => { p with ctrl := 0x80, scanline := 241, dot := 0 }
    let t := ppuDots 1 s
    let u := ppuDots 2 s
    (t.ppu.vblank, t.nmiPending) = (false, false) ∧
    (u.ppu.vblank, u.ppu.vblEvent, u.nmiPending, u.ppu.dot) = (true, true, true, 2) := by decide +kernel

/-- V61.20 to V61.22: the flags clear at (261, 1); the skipped dot of an odd frame, and no skip without rendering. -/
theorem test_pre_render :
    let f := ppuDot (withPpu fun p =>
      { p with vblank := true, sprite0Hit := true, spriteOverflow := true, scanline := 261, dot := 1 })
    let a := ppuDot (withPpu fun p => { p with odd := true, mask := 0x08, scanline := 261, dot := 339 })
    let b := withPpu fun p => { p with odd := true, scanline := 261, dot := 339 }
    (f.ppu.vblank, f.ppu.sprite0Hit, f.ppu.spriteOverflow) = (false, false, false) ∧
    (a.ppu.scanline, a.ppu.dot, a.ppu.odd) = (0, 0, false) ∧
    ((ppuDot b).ppu.scanline, (ppuDot b).ppu.dot) = (261, 340) ∧
    ((ppuDots 2 b).ppu.scanline, (ppuDots 2 b).ppu.dot, (ppuDots 2 b).ppu.odd) = (0, 0, false) := by decide +kernel

/-- V61.23, V61.24: the access comes before the dots of its cycle. -/
theorem test_access_before_dots :
    let r := memRead 0x2002 (withPpu fun p => { p with scanline := 241, dot := 1 })
    let q := memRead 0x2002 r.2
    r.1.getLsbD 7 = false ∧ q.1.getLsbD 7 = true ∧ q.2.ppu.vblank = false := by decide +kernel

/-- V61.17: the last two pairs of an OAM DMA copy the last two bytes of the page, in four cycles; STA $4014 requests
it (the count of a whole transfer is a statement's). -/
theorem test_oam_dma :
    let s := consoleCore 0x24 0xFD false false [] [(0x2FE, 0x77), (0x2FF, 0x99)]
    let t := oamDmaLoop 0x02 2 { s with ppu := { s.ppu with oamaddr := 0xFE } }
    (cellByte t .oam 0xFE, cellByte t .oam 0xFF, t.ppu.oamaddr) = (0x77, 0x99, 0) ∧ t.cycles = s.cycles + 4 ∧
    (busWrite 0x4014 0x02 s).oamDmaPage = some 0x02 := by decide +kernel

/-! ### The APU -/

/-- A core with the APU and the cycle counter changed. -/
def withApu (cycles : Nat) (f : Apu → Apu) : State := { State.reset with cycles := cycles, apu := f State.reset.apu }

/-- V62.1 to V62.3: the delay of a 0x4017 write by parity, and its reset. -/
theorem test_frame_counter_write :
    (busWrite 0x4017 0x00 (withApu 100 id)).apu.fcPending = some (0x00, 3) ∧
    (busWrite 0x4017 0x00 (withApu 101 id)).apu.fcPending = some (0x00, 4) ∧
    (let a := (apuTick (withApu 103 fun a => { a with fc := 50, fcPending := some (0x80, 0) })).apu
     (a.fc, a.fcMode, a.fcPending) = (0, true, none)) := by decide +kernel

/-- V62.4: the 4-step sequence ends with the frame interrupt and starts again. -/
theorem test_frame_irq : let a := (apuTick (withApu 29827 fun a => { a with fc := 29827 })).apu
    (a.frameIrq, a.fc) = (true, 0) := by decide +kernel

/-- V62.5, V62.6: a 0x4015 read clears the frame interrupt, and a 0x4017 write with bit 6 does. -/
theorem test_apu_status :
    let s := withApu 100 fun a =>
      { a with frameIrq := true, pulse1 := { a.pulse1 with lc := { a.pulse1.lc with len := 3 } } }
    let r := busRead 0x4015 s
    let u := busWrite 0x4017 0x40 s
    (∀ ob : Fin 256, s.apu.statusByte (BitVec.ofFin ob) &&& 0xDF = 0x41) ∧ r.2.apu.frameIrq = false ∧
    (u.apu.irqInhibit, u.apu.frameIrq) = (true, false) := by decide +kernel

/-- Pulse 1 enabled with a length, and the sequencer at a count. -/
def pulseCore (fc : Nat) (enabled : Bool) (len : Byte) : State := withApu 100 fun a =>
  { a with fc := fc, pulse1 := { a.pulse1 with lc := { a.pulse1.lc with enabled := enabled, len := len } } }

/-- V62.7 to V62.10: a length load is dropped on a muted channel and in a tick that decrements, else applies at the
end of the tick. -/
theorem test_length_load :
    (apuTick (busWrite 0x4003 0x08 (pulseCore 100 false 0))).apu.pulse1.lc.len = 0 ∧
    (busWrite 0x4003 0x18 (pulseCore 100 true 5)).apu.pulse1.lc.len = 5 ∧
    (apuTick (busWrite 0x4003 0x18 (pulseCore 100 true 5))).apu.pulse1.lc.len = 2 ∧
    (apuTick (busWrite 0x4003 0x18 (pulseCore 14911 true 5))).apu.pulse1.lc.len = 4 ∧
    (apuTick (busWrite 0x4003 0x08 (pulseCore 14911 true 0))).apu.pulse1.lc.len = 254 := by decide +kernel

/-- V62.11: a sample starts, its first byte is fetched in the same cycle's tick, and the next access waits a cycle. -/
theorem test_dmc_start :
    let s := busWrite 0x4015 0x10 (busWrite 0x4013 0x02 (busWrite 0x4012 0x01 State.reset))
    let t := apuTick s
    (s.apu.dmc.curAddr, s.apu.dmc.bytesLeft) = (0xC040, 33) ∧
    (t.stall, t.apu.dmc.curAddr, t.apu.dmc.bytesLeft) = (1, 0xC041, 32) ∧
    (tick t).cycles = t.cycles + 2 := by decide +kernel

/-- V62.12, V62.13: the noise shift register. -/
theorem test_lfsr : (lfsrStep false 0x0001, lfsrStep false 0x4000) = (0x4000, 0x2000) ∧
    (lfsrStep false 0x0041, lfsrStep true 0x0041) = (0x4020, 0x0020) := by decide

/-- V62.14: the default mixer at full outputs. -/
theorem test_mixer :
    let w : MixerWeights := { pulse1 := 752, pulse2 := 752, triangle := 851, noise := 494, dmc := 335 }
    Params.default.mixer = .linear w ∧ linearMix w 15 15 15 15 127 = mkRat 85280 100000 := ⟨rfl, rfl⟩

/-- 20_memory.md R133: the stall is served in full before the access: with PAL's fastest rate and 60 cycles for each
fetch, a sample of two bytes and a full buffer, whose next byte is due in one tick, the two fetches add 120 turns. -/
theorem test_drain :
    let s := withApu 100 fun a =>
      { a with dmc := { a.dmc with bytesLeft := 2, bufferEmpty := false, bitsLeft := 1, timer := 0, rateIndex := 15 } }
    let t := drainStall { s with
      stall := 400
      cfg := { s.cfg with dmcStallCycles := 60, busMode := .console, region := .pal } }
    (t.stall, t.cycles, t.apu.dmc.bytesLeft, t.hung) = (0, 620, 0, false) := by
  decide +kernel

/-- A stall that never ends stops the step (log entry 6). -/
theorem test_endless_stall :
    let s := { core false 0x8000 0 0 0 0xFD 0x24 [0xEA] [] with hung := true }
    (step s = .fault (.endlessStall (fetchInstr { s with delta := 0 }).2)) ∧
    (step { s with trapped := true } = .fault (.endlessStall (tick { s with delta := 0, trapped := true }))) :=
  ⟨rfl, rfl⟩

/-- ApuRegisterWrites: console mode, and the ends of the ranges of its clauses. -/
theorem witness_apu_writes : State.reset.cfg.busMode = .console ∧
    ([0x4000#16, 0x4003#16, 0x4004#16, 0x4007#16, 0x4008#16, 0x400B#16, 0x400C#16, 0x400F#16, 0x4010#16, 0x4013#16,
      0x4014#16, 0x4015#16].map fun a => a.toNat) = [0x4000, 0x4003, 0x4004, 0x4007, 0x4008, 0x400B, 0x400C, 0x400F,
      0x4010, 0x4013, 0x4014, 0x4015] := by decide

/-! ### The mapper and the ports -/

/-- A header from its first eight bytes. -/
def header (h0 h1 h2 h3 h4 h5 h6 h7 : Byte) : Vector Byte 16 :=
  ⟨#[h0, h1, h2, h3, h4, h5, h6, h7, 0, 0, 0, 0, 0, 0, 0, 0], rfl⟩

/-- The mapper id, scheme, mirroring and CHR page count of a load, or its error. -/
def loaded (h : Vector Byte 16) (prg chr : List Memory) : Except FaultKind (Nat × Mapper × Mirroring × Nat) :=
  match loadCart Params.default h prg chr with
  | .ok c => .ok (c.mapperId, c.mapper, c.mirroring, c.nChr)
  | .error e => .error e

/-- V63.1 to V63.6: loads and load errors. -/
theorem test_loads :
    loaded (header 0x4E 0x45 0x53 0x1A 0x02 0x01 0x10 0x00) [[], []] [[]] = .ok
      (1, .shiftRegister { shift := 0, count := 0, control := 0x0C, chr0 := 0, chr1 := 0, prgb := 0 }, .horizontal, 1) ∧
    loaded (header 0x4E 0x45 0x53 0x1A 0x02 0x00 0x41 0xB0) [[], []] [] = .ok (180, .upperBankSelect 0, .vertical, 0) ∧
    loaded (header 0x4E 0x45 0x53 0x00 0x02 0x00 0x00 0x00) [[], []] [] = .error .invalidHeader ∧
    loaded (header 0x4E 0x45 0x53 0x1A 0x00 0x00 0x00 0x00) [] [] = .error .invalidHeader ∧
    loaded (header 0x4E 0x45 0x53 0x1A 0x01 0x01 0x30 0x00) [[]] [[]] = .error .unsupportedMapper ∧
    loaded (header 0x4E 0x45 0x53 0x1A 0x01 0x01 0x08 0x00) [[]] [[]] = .ok (0, .fixed, .fourScreen, 1) :=
  ⟨rfl, rfl, rfl, rfl, rfl, rfl⟩

/-- Writes to the mapper, address and value. -/
def mapperWrites (order : BitOrder) (m : Mapper) (l : List (Addr × Byte)) : Mapper :=
  l.foldl (fun m w => m.write order w.1 w.2) m

/-- V63.7 to V63.11: the MMC1 serial port. -/
theorem test_mmc1 :
    let m := Mapper.shiftRegister { shift := 0, count := 0, control := 0x0C, chr0 := 0, chr1 := 0, prgb := 0 }
    let bits := fun (a : Addr) (b0 b1 b2 b3 b4 : Byte) => [(a, b0), (a, b1), (a, b2), (a, b3), (a, b4)]
    let m1 := mapperWrites .msbFirst m (bits 0xE000 1 0 0 1 1)
    let m2 := mapperWrites .lsbFirst m (bits 0xE000 1 0 0 1 1)
    (m1.lowerPage 8, m1.upperPage 8) = (3, 7) ∧ (m2.lowerPage 8, m2.upperPage 8) = (1, 7) ∧
    mapperWrites .msbFirst (.shiftRegister { shift := 3, count := 2, control := 0, chr0 := 0, chr1 := 0, prgb := 0 })
      [(0x8000, 0x80)] = m ∧
    mapperWrites .msbFirst m (bits 0x8000 0 1 1 1 0) =
      .shiftRegister { shift := 0, count := 0, control := 0x0E, chr0 := 0, chr1 := 0, prgb := 0 } ∧
    mapperWrites .msbFirst m [(0x8000, 0), (0x8000, 1), (0xE000, 1), (0xE000, 1), (0xE000, 0)] =
      .shiftRegister { shift := 0, count := 0, control := 0x0C, chr0 := 0, chr1 := 0, prgb := 0x0E } := by decide

/-- V63.13 to V63.15: the other bank-switching schemes. -/
theorem test_banks :
    let m1 := (Mapper.lowerBankSelect 0).write .msbFirst 0x8000 0x0A
    let m2 := (Mapper.upperBankSelect 0).write .msbFirst 0xC000 0x03
    let m3 := (Mapper.coarseBankSelect 0 false).write .msbFirst 0x8000 0x13
    (m1.lowerPage 8, m1.upperPage 8) = (2, 7) ∧ (m2.lowerPage 8, m2.upperPage 8) = (0, 3) ∧
    (m3.lowerPage 8, m3.upperPage 8) = (6, 7) ∧
    ({ Cart.reset with mapper := m3 } : Cart).effectiveMirroring = .singleScreenHigh := by decide

/-- Bit 0 of the shift register, which a read of the port returns, at each of `n` reads. -/
def padBits (second : Bool) : (n : Nat) → State → List Nat
  | 0, _ => []
  | n + 1, s => (s.pads.shift second).toNat % 2 :: padBits second n (padReads second 1 s)

/-- A read of a port returns bit 0 of its shift register under three bits of open bus (V63.16). -/
theorem test_pad_byte :
    let s := busWrite 0x4016 0x00 (busWrite 0x4016 0x01 (setButtons (some (0x09, 0x80)) State.reset))
    (busRead 0x4016 s).1 = (Config.openBus 0 &&& 0xE0) ||| (s.pads.shift1 &&& 1) ∧
    (busRead 0x4017 s).1 = (Config.openBus 0 &&& 0xE0) ||| (s.pads.shift2 &&& 1) := ⟨rfl, rfl⟩

/-- V63.16 to V63.18: the controller ports. -/
theorem test_pads :
    let strobed := fun b => busWrite 0x4016 0x00 (busWrite 0x4016 0x01 (setButtons b State.reset))
    padBits false 10 (strobed (some (0x09, 0x00))) = [1, 0, 0, 1, 0, 0, 0, 0, 1, 1] ∧
    padBits false 3 (busWrite 0x4016 0x01 (setButtons (some (0x01, 0x00)) State.reset)) = [1, 1, 1] ∧
    padBits true 8 (strobed (some (0x00, 0x80))) = [0, 0, 0, 0, 0, 0, 0, 1] := by decide +kernel

/-! ### Reset -/

/-- `State.reset` is what power-on computes for its cartridge and parameters (70_reset_and_hazards.md R661, R662). -/
theorem test_power_on_is_reset : powerOn Params.conformance Cart.reset = State.reset := rfl

/-- V70.1, V70.2: power-on through the vector, and with START_PC. -/
theorem test_power_on :
    let t := powerOn Params.default { Cart.reset with prg := [(0x3FFC, 0x00), (0x3FFD, 0x80)] }
    report t = [0x8000, 0, 0, 0, 0xFD, 0x24, 7] ∧ [t.cycles, t.ppu.scanline, t.ppu.dot, t.apu.fc] = [7, 0, 21, 7] ∧
    t.iPoll = true ∧ report State.reset = [0xC000, 0, 0, 0, 0xFD, 0x24, 7] ∧
    [State.reset.cycles, State.reset.ppu.scanline, State.reset.ppu.dot] = [7, 0, 21] := by decide +kernel

/-- V70.3, V70.4: an external reset of a trapped core, and of a faulted one. -/
theorem test_external_reset :
    let s := { core false 0x8000 5 0 0 0x80 0xA5 [] [(0xFFFC, 0x34), (0xFFFD, 0x12)] with
      trapped := true, cycles := 528 }
    let t := externalReset s
    (report t, t.cycles, t.trapped) = ([0x1234, 0, 0, 0, 0xFD, 0x24, 7], 535, false) ∧
    (externalReset { s with fault := some .unimplementedOpcode }).fault = some .unimplementedOpcode := by decide +kernel

/-! ### Witnesses: states and operands that meet the hypotheses of the statements, clause by clause -/

/-- EncodeThenDecode and DecodeThenEncode: an instruction with its largest operand, a string with bytes left over. -/
theorem witness_encoding : (Instr.staAbx 0xFFFF).wellFormed = true ∧
    decode [0x9D, 0xFF, 0xFF, 0x00] = .ok (.staAbx 0xFFFF, [0x00]) := ⟨rfl, rfl⟩

/-- DecoderTotal: one byte short, and exactly long enough. -/
theorem witness_decoder_total : ([0x34] : List Byte).length < (opcodeCell 0x9D).operandBytes ∧
    ¬([0x34, 0x12] : List Byte).length < (opcodeCell 0x9D).operandBytes ∧
    ¬([] : List Byte).length < (opcodeCell 0xEA).operandBytes := by decide

/-- EffectiveAddressValue: the edges of storage, and what is no storage (20_memory.md R140). -/
theorem witness_storage_edges :
    let s := consoleCore 0x24 0xFD false false [0xAA] [(0x7FF, 0x55), (0xFF, 0x66)]
    let at_ := fun m => storedByte s (BitVec.ofNat 16 (specAddress s m))
    at_ (.zp 0xFF) = some 0x66 ∧ at_ (.abs 0x1FFF) = some 0x55 ∧
    at_ (.abs 0x2000) = none ∧ at_ (.abs 0x401F) = none ∧
    (at_ (.abs 0x4020)).isSome = true ∧ (at_ (.abs 0x7FFF)).isSome = true ∧ at_ (.abs 0x8000) = some 0xAA ∧
    at_ (.abs 0xFFFF) = some 0x90 := by decide +kernel

/-- LoadInstructions, StoreInstructions, AddSubtract and LogicAndCompare: an instruction of each mnemonic. -/
theorem witness_mnemonics_a :
    [(Instr.ldaIzy 0xFF), .ldxAby 0xFFFF, .ldyImm 0, .laxIzx 0, .staIzy 0xFF, .stxZpy 0, .styAbs 0x2000, .saxIzx 0xFF,
      .adcImm 0, .sbcImmEB 0, .andImm 0, .oraAbx 0, .eorZp 0, .cmpIzy 0, .cpxAbs 0, .cpyZp 0, .bitAbs 0x2002].map
      Instr.mnemonic =
    [.LDA, .LDX, .LDY, .LAX, .STA, .STX, .STY, .SAX, .ADC, .SBC, .AND, .ORA, .EOR, .CMP, .CPX, .CPY, .BIT] := by decide

/-- IncrementDecrement, ShiftInstructions and CombinedInstructions: an instruction of each mnemonic, with its memory
operand. -/
theorem witness_mnemonics_b :
    [(Instr.incAbx 0xFFFF), .decZp 0, .aslAbx 0xFFFF, .lsrZp 0, .rolAbs 0, .rorZpx 0, .dcpIzx 0, .isbIzy 0, .sloAby 0,
      .rlaZp 0, .sreAbs 0, .rraIzx 0xFF].map Instr.mnemonic =
      [.INC, .DEC, .ASL, .LSR, .ROL, .ROR, .DCP, .ISB, .SLO, .RLA, .SRE, .RRA] ∧
    [(Instr.aslAbx 0xFFFF), .lsrZp 0, .rolAbs 0, .rorZpx 0].map instrOperand =
      [.memory (.abx 0xFFFF), .memory (.zp 0), .memory (.abs 0), .memory (.zpx 0)] := by decide

/-- NopInstructions, BranchInstructions and JamInstructions: both forms of NOP, every branch, and a JAM. -/
theorem witness_mnemonics_c :
    [Instr.nop, .nopAbxFC 0xFFFF, .bccRel 0x80, .bcsRel 0x7F, .bneRel 0, .beqRel 0xFF, .bplRel 0, .bmiRel 0, .bvcRel 0,
      .bvsRel 0, .jamF2].map Instr.mnemonic =
      [.NOP, .NOP, .BCC, .BCS, .BNE, .BEQ, .BPL, .BMI, .BVC, .BVS, .JAM] ∧
    instrOperand .nop = .implied ∧ instrOperand (.nopAbxFC 0xFFFF) ≠ .implied := by decide

/-- OptionalInstructions and UnimplementedSlots: the parameter both ways, and both kinds of slot. -/
theorem witness_optional :
    let on := core true 0x8000 0 0 0 0xFD 0x24 [] []
    let off := core false 0x8000 0 0 0 0xFD 0x24 [] []
    on.cfg.extraUnofficial = true ∧ (Instr.ancImm2B 0).optional = true ∧
    (Instr.ancImm2B 0).isSlot on.cfg = false ∧ (Instr.ancImm2B 0).isSlot off.cfg = true ∧
    (Instr.xaaImm 0).unstable = true ∧ (Instr.xaaImm 0).isSlot on.cfg = true := by decide

/-- JumpInstructions: storage at a pointer that ends in FF, and at the start of its page. -/
theorem witness_jump :
    let s := consoleCore 0x24 0xFD false false [] [(0x2FF, 0x00), (0x200, 0x80)]
    storedByte s 0x02FF = some 0x00 ∧
    storedByte s (BitVec.ofNat 16 (0x02FF / 256 * 256 + (0x02FF + 1) % 256)) = some 0x80 := by decide +kernel

/-- SubroutineCall: PC in the stack page just outside the two slots pushed to. -/
theorem witness_subroutine_call :
    let s := { consoleCore 0x24 0xFD false false [] [(0x1FB, 0x12)] with
      regs := { a := 0, x := 0, y := 0, s := 0xFD, pc := 0x01FB, p := Flags.ofByte 0x24 } }
    storedByte s s.regs.pc = some 0x12 ∧ storeTarget s s.regs.pc ≠ some (stackCell s s.regs.s) ∧
    storeTarget s s.regs.pc ≠ some (stackCell s (s.regs.s - 1)) := by decide +kernel

/-- BreakInstruction and InterruptEntry: a pending NMI, and the kinds that are not BRK. -/
theorem witness_interrupt_entry : (consoleCore 0x24 0xFD false true [0x00] []).nmiPending = true ∧
    EntryKind.irq ≠ .brk ∧ EntryKind.nmi ≠ .brk := by decide

/-- The premises of StepRunsDecoded, decided. -/
def runsDecoded (s : State) (bs : List Byte) (i : Instr) : Bool :=
  s.fault.isNone && !s.trapped && decode bs == .ok (i, []) &&
    (List.range bs.length).all fun k => storedByte s (s.regs.pc + BitVec.ofNat 16 k) == bs[k]?

/-- StepRunsDecoded: each fetch length, a slot, JSR, and an instruction that wraps past 0xFFFF. -/
theorem witness_step_runs_decoded :
    [(consoleCore 0x24 0xFD false false [0xEA] [], [0xEA], Instr.nop),
      (consoleCore 0x24 0xFD false false [0xAB, 1] [], [0xAB, 1], .lxaImm 1),
      (consoleCore 0x24 0xFD false false [0x20, 1, 2] [], [0x20, 1, 2], .jsrAbs 0x0201),
      (core false 0xFFFE 0 0 0 0xFD 0x24 [] [(0, 2), (0xFFFE, 0x8D), (0xFFFF, 1)], [0x8D, 1, 2], .staAbs 0x0201)].all
      (fun q => runsDecoded q.1 q.2.1 q.2.2) = true := by decide +kernel

/-- Whether a step answers a next state. -/
def answersNext (s : State) : Bool :=
  match step s with
  | .next _ => true
  | .fault _ => false
  | .refused _ => false

/-- TrappedAndFaulted, StepOutcomes and StepClock: a trapped core, a faulted one, a step to a next state and a step to a
fault, each from a core with no fault. -/
theorem witness_steps :
    let s := core false 0x8000 0 0 0 0xFD 0x24 [0xEA] []
    let slot := core true 0x8000 0 0 0 0xFD 0x24 [0x8B] []
    (s.fault = none ∧ answersNext s = true) ∧ (slot.fault = none ∧ answersNext slot = false) ∧
    ({ s with trapped := true }).fault = none ∧ ({ s with trapped := true }).trapped = true ∧
    ({ s with fault := some .nullWrite }).fault = some .nullWrite := by decide +kernel

/-- StepKeepsInvariant: a state of the invariant that steps, other than reset's. -/
theorem witness_invariant : (State.reset.withFetchWord 16 0x10A9).Inv ∧
    answersNext (State.reset.withFetchWord 16 0x10A9) = true where
  left :=
    { cfg := by decide, palPhase := by decide, ram := by decide, exram := by decide, sram := by decide
      flat := by decide
      ppu := { dot := by decide, scanline := by decide, fineX := by decide, sprites := by decide, oam := by decide
               vram := by decide, palette := by decide, frame := rfl }
      apu := { fc := by decide, lfsr := by decide, bitsLeft := by decide, curAddr := by decide }
      cart := { pages := by decide, prg := by decide +kernel, chr := by decide, chrRam := by decide
                count := fun r h => by cases h }
      hung := by decide }
  right := by decide +kernel

/-- FlatCycleCounts: a core ready in flat mode with an instruction of each clause: a slot, an indexed read across a
page, a branch taken across one. -/
theorem witness_flat_ready :
    let slot := core false 0x8000 0 0 0 0xFD 0x24 [0x8B, 0, 0] []
    let read := core false 0x8000 0 1 0 0xFD 0x24 [0xBD, 0xFF, 0x12] []
    let branch := core false 0x80FD 0 0 0 0xFD 0x24 [0x10, 0x7F, 0] []
    FlatReady slot ∧ FlatReady read ∧ FlatReady branch ∧ decode [0x8B, 0, 0] = .ok (.xaaImm 0, [0]) ∧
    [cellByte slot .flat 0x8000, cellByte slot .flat 0x8001, cellByte slot .flat 0x8002] = [0x8B, 0, 0] ∧
    [cellByte read .flat 0x8000, cellByte read .flat 0x8001, cellByte read .flat 0x8002] = [0xBD, 0xFF, 0x12] ∧
    [cellByte branch .flat 0x80FD, cellByte branch .flat 0x80FE, cellByte branch .flat 0x80FF] = [0x10, 0x7F, 0] ∧
    extraCycles (.ldaAbx 0x12FF) read = 1 ∧ extraCycles (.bplRel 0x7F) branch = 2 :=
  ⟨⟨rfl, rfl, rfl, rfl, rfl, rfl, rfl⟩, ⟨rfl, rfl, rfl, rfl, rfl, rfl, rfl⟩, ⟨rfl, rfl, rfl, rfl, rfl, rfl, rfl⟩, rfl,
    by decide +kernel, by decide +kernel, by decide +kernel, by decide +kernel, by decide +kernel⟩

/-- InterruptSelection: each of its branches, with no OAM DMA requested. -/
theorem witness_interrupt_selection :
    let irq := consoleCore 0x20 0xFD true false [] []
    let nmi := consoleCore 0x24 0xFD false true [] []
    Mnemonic.BRK ≠ .JAM ∧ Mnemonic.RTI ≠ .JAM ∧ nmi.oamDmaPage = none ∧ (runOamDma nmi).nmiPending = true ∧
    irqLine (runOamDma irq) = true ∧ irq.regs.p.i = false ∧ Mnemonic.SEI ∈ irq.cfg.lateISet ∧
    Mnemonic.RTI ∉ irq.cfg.lateISet ∧ ({ irq with prevCli := true }).prevCli = true := by decide +kernel

/-- OamDmaTransfer: a page of RAM, started at an even and at an odd cycle, with the OAM address that wraps. -/
theorem witness_oam_dma :
    let s := { consoleCore 0x24 0xFD false false [] [(0x7FF, 0x99)] with oamDmaPage := some 0x1F, cycles := 101 }
    s.cfg.busMode = .console ∧ s.oamDmaPage = some 0x1F ∧ s.ppu.rendering = false ∧ s.stall = 0 ∧
    s.apu.dmc.bytesLeft = 0 ∧ storedByte s (BitVec.ofNat 16 (256 * (0x1F : Byte).toNat + 255)) = some 0x99 := by
  decide +kernel

/-- ExternalReset: both ways PC is loaded, no sample playing, an address of the DMC in its range, and no NMI enabled. -/
theorem witness_external_reset : State.reset.ppu.ctrl.toNat < 128 ∧ State.reset.cfg.startPc = some 0xC000#16 ∧
    (core false 0 0 0 0 0 0 [] []).cfg.startPc = none ∧ State.reset.apu.dmc.bytesLeft = 0 ∧
    0x8000 ≤ State.reset.apu.dmc.curAddr.toNat ∧ State.reset.cfg.dmcStallCycles < 400 := by decide

/-- The header of `State.reset`'s cartridge: one PRG page, no CHR page, mapper 0, horizontal. -/
def resetHeader : Vector Byte 16 := header 0x4E 0x45 0x53 0x1A 0x01 0x00 0x00 0x00

/-- PowerOn: `State.reset` is a conformance start, of a cartridge with one PRG page that lists no byte (log entry 1). -/
theorem witness_conformance_start : ConformanceStart State.reset :=
  ⟨⟨Params.conformance, resetHeader, [[]], [], rfl, rfl⟩, rfl, rfl, rfl, rfl⟩

/-- PowerOn, its last clause: the default parameters with START_PC given. -/
theorem witness_default_start :
    LoadedPowerOn { Params.default with startPc := some 0xC000#16 } resetHeader [[]] [] State.reset := rfl

/-- LoadErrors: each ground of InvalidHeader alone, an id that no scheme has, and ids that one has. -/
theorem witness_loads :
    (resetHeader.toList.take 4 = [0x4E#8, 0x45#8, 0x53#8, 0x1A#8] ∧ resetHeader[4] = 1 ∧ resetHeader[5] = 0) ∧
    (header 0x4E 0x45 0x53 0x1B 0x01 0x00 0x00 0x00).toList.take 4 ≠ [0x4E#8, 0x45#8, 0x53#8, 0x1A#8] ∧
    (header 0x4E 0x45 0x53 0x1A 0x00 0x00 0x00 0x00)[4] = 0 ∧
    ([[], []] : List Memory).length ≠ resetHeader[4].toNat ∧ Memory.wf 0x4000 [(0x4000, 1)] = false ∧
    Memory.wf 0x4000 [(0x3FFF, 1)] = true ∧ Memory.wf 0x2000 [(0x2000, 1)] = false ∧
    (∀ q ∈ Params.default.mapperIds, q.1 ≠ 3) ∧ (∃ q ∈ Params.default.mapperIds, q.1 = 180) ∧
    Params.default.mapperIds.find? (fun q => q.1 == 180) = some (180, .upperBankSelect) ∧
    Memory.read [(0x3FFF, 1)] 0x3FFF = some 1 := by decide

/-- FixedRoundTrip: two PRG pages and one CHR page with bytes at their ends; and one PRG page. -/
theorem witness_fixed_round_trip :
    (∃ s, LoadedPowerOn Params.default (header 0x4E 0x45 0x53 0x1A 0x02 0x01 0x00 0x00)
      [[(0, 1), (0x3FFF, 2)], [(0, 3), (0x3FFF, 4)]] [[(0, 5), (0x1FFF, 6)]] s ∧ s.cart.mapper = .fixed) ∧
    (∃ s, LoadedPowerOn Params.default (header 0x4E 0x45 0x53 0x1A 0x01 0x01 0x00 0x00)
      [[(0, 1), (0x3FFF, 2)]] [[(0, 5), (0x1FFF, 6)]] s ∧ s.cart.mapper = .fixed) ∧
    Params.default.busMode = .console ∧ Memory.read [(0, 1), (0x3FFF, 2)] 0x3FFF = some 2 :=
  ⟨⟨_, rfl, rfl⟩, ⟨_, rfl, rfl⟩, rfl, rfl⟩

/-- How and after how many cycles a run of at most `n` steps ends. -/
def runSummary (n : Nat) (c : DriverCall) (s : State) : Option (RunEnd × Nat) :=
  (run n c s).map fun r => (r.ended, r.used)

/-- DriverBoundaries: budgets used and not, with and without a fault; and runs that end in a JAM, in a fault and with
their budget used. -/
theorem witness_driver :
    let s := core false 0x8000 0 0 0 0xFD 0x24 [0xEA, 0xEA, 0x02] []
    let f := core false 0x8000 0 0 0 0xFD 0x24 [0xEA, 0x8B] []
    (advance 1 s).map (·.used) = some 2 ∧ s.fault = none ∧ (advance 0 s).map (·.used) = some 0 ∧
    (advance 9 { s with fault := some .unimplementedOpcode }).map (·.used) = some 0 ∧
    runSummary 9 (.budget 9) s = some (.halted, 5) ∧
    runSummary 9 (.budget 9) f = some (.faulted .unimplementedOpcode, 3) ∧
    runSummary 9 (.budget 3) s = some (.suspended, 4) := by decide +kernel

/-- DriverBoundaries, for vblank (70_reset_and_hazards.md R680, R682): returned after the step that meets (241, 1), not
before, and never in flat mode, where a run still ends in its JAM; a fault returns at once. -/
theorem test_wait_for_vblank :
    let s := consoleCore 0x24 0xFD false false [0xEA, 0xEA] []
    let v := { s with ppu := { s.ppu with scanline := 240, dot := 336, vblEvent := true } }
    let f := core false 0x8000 0 0 0 0xFD 0x24 [0xEA, 0xEA, 0x02] []
    (advanceToNextVblank 1 v).map (·.used) = none ∧ (advanceToNextVblank 2 v).map (·.used) = some 4 ∧
    runSummary 2 .vblank v = some (.suspended, 4) ∧ runSummary 9 .vblank f = some (.halted, 5) ∧
    (advanceToNextVblank 9 f).map (·.used) = none ∧
    (advanceToNextVblank 0 { f with fault := some .unimplementedOpcode }).map (·.used) = some 0 := by decide +kernel

/-- A step that a stall never lets end has no boundary: no call returns and no run ends, whatever its budget (log
entry 6). -/
theorem test_no_boundary :
    let s := { core false 0x8000 0 0 0 0xFD 0x24 [0xEA] [] with hung := true }
    (advance 0 s).map (·.used) = none ∧ (advanceToNextVblank 9 s).map (·.used) = none ∧
    runSummary 9 (.budget 0) s = none := by decide +kernel

/-- RamMirror, WritesIgnored and BusReadEffects: the ends of every range and the three read addresses of their own, in
console mode under the fixed scheme. -/
theorem witness_bus : State.reset.cfg.busMode = .console ∧ State.reset.cart.mapper = .fixed ∧
    (0x1FFF#16).toNat < 0x2000 ∧ (0x07FF#16).toNat % 0x800 = (0x1FFF#16).toNat % 0x800 ∧
    0x4018 ≤ (0x4018#16).toNat ∧ (0x401F#16).toNat < 0x4020 ∧ (0x400D#16).toNat = 0x400D ∧
    0x8000 ≤ (0x8000#16).toNat ∧ (0x2007#16).toNat % 8 = 7 ∧ (0x3FFF#16).toNat < 0x4000 ∧ (0x4014#16).toNat < 0x4015 ∧
    (0x4015#16).toNat = 0x4015 ∧ (0x4016#16).toNat = 0x4016 ∧ (0x4017#16).toNat = 0x4017 ∧
    0x3F00 ≤ (withMirroring .horizontal 0x7FFF).ppu.v.toNat % 0x4000 ∧
    State.reset.ppu.v.toNat % 0x4000 < 0x3F00 := by
  decide +kernel

/-- StorageReadAfterWrite: a store read back through a mirror, one to another cell, one to a device, and flat mode. -/
theorem witness_storage :
    let s := consoleCore 0x24 0xFD false false [0xAA] [(0, 0x11)]
    storedByte s 0x0800 = some 0x11 ∧ storeTarget s 0x1800 = storeTarget s 0x0800 ∧
    storeTarget s 0x1800 ≠ none ∧ storedByte s 0x8000 = some 0xAA ∧ storeTarget s 0x8000 = none ∧
    storeTarget s 0x4015 = none ∧ (core false 0 0 0 0 0 0 [] []).cfg.busMode = .flat64k := by decide +kernel

/-- PaletteAlias and NametableMirroring: addresses of one cell and of two, at the ends of the ranges. -/
theorem witness_ppu_space : palIndex 0x3F10 = palIndex 0x3F00 ∧ palIndex 0x3FFF ≠ palIndex 0x3F00 ∧
    ntIndex .horizontal 0x2000 = ntIndex .horizontal 0x3400 ∧ ntIndex .vertical 0x2000 = ntIndex .vertical 0x3800 ∧
    ntIndex .horizontal 0x3EFF ≠ ntIndex .horizontal 0x2000 := by decide

/-- PpuRegisterWrites: console mode, the ends of the window, the toggle both ways, and the NMI-enable edge in vblank. -/
theorem witness_ppu_writes :
    let s := withPpu fun p => { p with w := true, vblank := true }
    s.cfg.busMode = .console ∧ 0x2000 ≤ (0x2000#16).toNat ∧ (0x3FFF#16).toNat < 0x4000 ∧ s.ppu.w = true ∧
    State.reset.ppu.w = false ∧ s.ppu.ctrl.toNat < 128 ∧ s.ppu.vblank = true := by decide +kernel

/-- DotCounter: the skipped dot, the end of a line and of a frame, and the start of a frame. -/
theorem witness_dots :
    let s := withPpu fun p => { p with scanline := 261, dot := 339, odd := true, mask := 0x08 }
    let z := withPpu fun p => { p with scanline := 0, dot := 0, odd := true, mask := 0x10 }
    (s.ppu.dot ≤ 340 ∧ s.ppu.scanline ≤ 261 ∧ s.ppu.odd = true ∧ s.ppu.rendering = true) ∧
    (z.ppu.dot = 0 ∧ z.ppu.scanline = 0 ∧ z.ppu.odd = true ∧ z.ppu.rendering = true) := by decide

/-- SpriteEvaluation: its premises, with nine sprites in range, of which the ninth sets the overflow flag or, not at the
byte looked at, does not; and with one. -/
theorem witness_sprites :
    let oam := fun n y => listed (code 0 ((List.range 64).flatMap fun k =>
      if k < n then [10, 0, 0, 0] else if k = 20 then [y, 0, 0, 0] else [0xFF, 0xFF, 0xFF, 0xFF]))
    let s := fun n y => withPpu fun p => { p with scanline := 12, dot := 257, mask := 0x1E, oam := oam n y }
    let found := fun n y => (List.range 64).filter (spriteSelected (s n y))
    (s 9 0xFF).cfg.sprites = .full ∧ (s 9 0xFF).ppu.rendering = true ∧ (s 9 0xFF).ppu.scanline < 240 ∧
    (s 9 0xFF).ppu.dot = 257 ∧ ((found 9 0xFF)[7]?, (found 9 0xFF).length) = (some 7, 9) ∧
    overflowSeen (s 9 0xFF) 8 = true ∧ ((found 8 10).length, overflowSeen (s 8 10) 8) = (9, true) ∧
    ((found 8 0xFF)[7]?, overflowSeen (s 8 0xFF) 8) = (some 7, false) ∧ (found 1 0xFF)[7]? = none := by decide +kernel

/-- PixelOutput: its premises at the last pixel of a line; and the multiplexer of 61_ppu.md R510 on one column: a sprite
in front, one behind, no sprite, no background, and the background hidden; the hit of R503 at columns 5 and 255. -/
theorem witness_pixels :
    let e : Sprite := { y := 0, tile := 0, attr := 0x01, xpos := 4, lo := 0xFF, hi := 0 }
    let s := withPpu fun p => { p with
      scanline := 239, dot := 256, mask := 0x1E, x := 2, shPatHi := 0x2000, shAtLo := 0x2000, spr := [e]
      spr0OnLine := true }
    let entry := fun (f : Ppu → Ppu) => pixelEntry s.cfg (f s.ppu) 5
    (s.ppu.scanline < 240 ∧ 1 ≤ s.ppu.dot ∧ s.ppu.dot ≤ 256) ∧ entry id = 21 ∧
    entry (fun p => { p with spr := [{ e with attr := 0x21 }] }) = 6 ∧ entry (fun p => { p with spr := [] }) = 6 ∧
    entry (fun p => { p with shPatHi := 0 }) = 21 ∧ entry (fun p => { p with mask := 0x16 }) = 0 ∧
    zeroHit s.cfg s.ppu 5 = true ∧
    zeroHit s.cfg { s.ppu with spr := [{ e with xpos := 250 }] } 255 = false := by decide +kernel

/-- BackgroundPipeline: the dots of the schedule (61_ppu.md R480), and where the pipeline does not work. -/
theorem witness_pipeline :
    let p := fun line dot => (withPpu fun p => { p with scanline := line, dot := dot, mask := 0x08 }).ppu
    ([2, 3, 9, 13, 15, 256, 257, 321, 336, 337].map fun d => tilePhase (p 261 d)) =
      [some 1, some 2, some 0, some 4, some 6, some 7, some 0, some 0, some 7, some 0] ∧
    ([1, 258, 320, 338].map fun d => tilePhase (p 0 d)) = [none, none, none, none] ∧
    (pipelineDot (p 239 338), pipelineDot (p 240 2), pipelineDot { p 0 2 with mask := 0 }) = (true, false, false) := by
  decide +kernel

/-- A core whose DMC has bytes left and an empty buffer. -/
def dmcCore (left : BitVec 12) (loop : Bool) (addr : Addr) : State := withApu 100 fun a =>
  { a with dmc := { a.dmc with bytesLeft := left, loop := loop, curAddr := addr, irqEn := !loop } }

/-- BreakInstruction and InterruptEntry: each ground on which the vector cycles raise no NMI, the last one with the
dot just past its range. -/
theorem witness_no_new_nmi :
    NoNewNmi (core false 0 0 0 0 0 0 [] []) State.reset ∧ NoNewNmi State.reset State.reset ∧
    NoNewNmi (withPpu fun p => { p with ctrl := 0x80 }) (withPpu fun p => { p with scanline := 241, dot := 10 }) :=
  ⟨.inl rfl, .inr (.inl (by decide)), .inr (.inr (by decide))⟩

/-- TrappedAndFaulted and DmcFetch: each ground on which a stall ends, and one on which it need not. -/
theorem witness_stall_ends :
    let s := dmcCore 2 true 0xC000
    (s.hung = false ∧ s.stall = 0) ∧ s.cfg.dmcStallCycles < 400 ∧ (dmcCore 2 false 0xC000).apu.dmc.loop = false ∧
    ¬({ s with cfg := { s.cfg with dmcStallCycles := 428 } }).cfg.dmcStallCycles < 400 := by decide

/-- The log's address after a step: JSR's own high byte overwritten by its pushes, read after them (44_control_flow.md
R350); none for a slot (46_undocumented.md R391) and none for a trapped core (60_exceptions.md R448). -/
theorem test_log_address :
    let jsr := core false 0x01FB 0 0 0 0xFD 0x24 [0x20, 0x34, 0x12] []
    (snapshotAfter jsr).map (·.1) = some 0x0134 ∧ (runOne jsr).regs.pc = 0x0134 ∧
    snapshotAfter (core false 0x8000 0 0 0 0xFD 0x24 [0xBB, 0x34, 0x12] []) = none ∧
    (snapshotAfter (core true 0x8000 0 0 1 0xFD 0x24 [0xBB, 0x34, 0x12] [])).map (·.1) = some 0x1235 ∧
    snapshotAfter { jsr with trapped := true } = none := by decide +kernel

/-- EnvelopeSweepLinear and TimersAndSample: ticks that clock the envelopes alone, the sweeps too, and nothing; a
playing triangle, and usable parameters in console mode. -/
theorem witness_apu_clocks :
    let s := fun fc => withApu fc fun a => { a with fc := fc }
    ([7454, 7455, 14911].map fun fc => (quarterClocked (s fc), halfClocked (s fc))) =
      [(false, false), (true, false), (true, true)] ∧
    (s 0).cfg.busMode = .console ∧ (s 0).cfg.wellFormed = true ∧ (s 0).cfg.mixer = Params.default.mixer ∧
    (noisePeriods .ntsc)[15]? = some 4068 ∧ (dmcRates .pal)[15]? = some 50 := by decide +kernel

/-- FrameSequencer and LengthCounterTick: a delayed write that acts now, one that waits, none; and usable parameters. -/
theorem witness_frame_sequencer :
    (withApu 100 fun a => { a with fcPending := some (0x80, 0) }).apu.fcPending = some (0x80, 0) ∧
    (∀ v, (withApu 100 fun a => { a with fcPending := some (0x80, 3) }).apu.fcPending ≠ some (v, 0)) ∧
    (∀ v, State.reset.apu.fcPending ≠ some (v, 0)) ∧ 0x8000 ≤ State.reset.apu.dmc.curAddr.toNat ∧
    State.reset.cfg.wellFormed = true ∧ State.reset.cfg.busMode = .console :=
  ⟨rfl, fun _ => by simp [withApu], fun _ => by simp [State.reset, Apu.reset], by decide, by decide, rfl⟩

/-- DmcFetch: a byte in the middle at the top address, the last byte with and without a loop, and no fetch. -/
theorem witness_dmc_fetch :
    let s := dmcCore 2 false 0xFFFF
    s.apu.dmc.bufferEmpty = true ∧ 1 < s.apu.dmc.bytesLeft.toNat ∧ s.apu.dmc.curAddr.toNat = 0xFFFF ∧
    ((dmcCore 1 true 0xC000).apu.dmc.bytesLeft.toNat = 1 ∧ (dmcCore 1 true 0xC000).apu.dmc.loop = true) ∧
    ((dmcCore 1 false 0xC000).apu.dmc.bytesLeft.toNat = 1 ∧ (dmcCore 1 false 0xC000).apu.dmc.loop = false) ∧
    State.reset.apu.dmc.bytesLeft = 0 := by decide

/-- MapperRegisters: an empty port, values without and with bit 7, and an address of each register. -/
theorem witness_mmc1 : State.reset.cfg.busMode = .console ∧ 0x8000 ≤ (0x8000#16).toNat ∧
    ({ shift := 0, count := 0, control := 0x0C, chr0 := 0, chr1 := 0, prgb := 0 } : Mmc1).count = 0 ∧
    (0x7F : Byte).toNat < 128 ∧ 128 ≤ (0x80 : Byte).toNat ∧
    [0x9FFF#16, 0xA000#16, 0xDFFF#16, 0xE000#16].map (fun a => a.toNat / 8192 % 4) = [0, 1, 2, 3] := by decide

/-- ControllerShift: the host holds buttons, and the strobe values. -/
theorem witness_controller : (setButtons (some (0x09, 0x80)) State.reset).cfg.busMode = .console ∧
    (setButtons (some (0x09, 0x80)) State.reset).pads.host = some (0x09, 0x80) ∧ (0xFF : Byte).toNat % 2 = 1 ∧
    (0xFE : Byte).toNat % 2 = 0 := by decide

end Sys2Proof.Tests
end

section
/-!
SUPPORT. O29: the step of a trapped CPU and of a faulted core, and the one place that can mark a stall as endless: a
cycle's devices keep the mark, so an idle cycle sets it only where its drain does not end (log entry 6).
-/

namespace Sys2Proof.Machine

/-! ### The mark of an endless stall -/

theorem busRead_hung (addr : Addr) (s : State) : (busRead addr s).2.hung = s.hung := by
  simp only [busRead, consoleRead, padRead, latchButtons, ppuRegRead, apuStatusRead, drawOpenBus]
  (repeat' split) <;> rfl

theorem advancePhase_hung (s : State) : (advancePhase s).hung = s.hung := by
  unfold advancePhase
  split <;> rfl

theorem ppuDots_hung (n : Nat) (s : State) : (ppuDots n s).hung = s.hung := by
  induction n generalizing s with
  | zero => rfl
  | succ n ih => exact ih (ppuDot s)

theorem dmcReader_hung (s : State) : (dmcReader s).hung = s.hung := by
  unfold dmcReader
  split
  · exact busRead_hung s.apu.dmc.curAddr { s with stall := s.stall + s.cfg.dmcStallCycles }
  · rfl

theorem clockDevices_hung (s : State) : (clockDevices s).hung = s.hung := by
  unfold clockDevices
  split
  · calc (apuTick (ppuDots (dotsThisCycle s) (advancePhase s))).hung
        = (ppuDots (dotsThisCycle s) (advancePhase s)).hung := dmcReader_hung _
      _ = (advancePhase s).hung := ppuDots_hung _ _
      _ = s.hung := advancePhase_hung s
  · exact advancePhase_hung s

/-- The devices' part of a cycle never marks a stall as endless, whatever the parameters. -/
@[simp] theorem endCycle_hung (s : State) : (endCycle s).hung = s.hung := clockDevices_hung s

@[simp] theorem drainLoop_hung (n : Nat) (s : State) : (drainLoop n s).hung = s.hung := by
  induction n generalizing s with
  | zero => rfl
  | succ n ih =>
    unfold drainLoop
    split
    · rfl
    · exact (ih (drainTurn s)).trans (endCycle_hung _)

/-- An idle cycle marks nothing where no cycle is owed, and on each ground on which the drain ends (20_memory.md
R133). -/
theorem tick_hung (s : State) (h : s.stall = 0 ∨ s.cfg.dmcStallCycles < 400 ∨ s.apu.dmc.loop = false) :
    (tick s).hung = s.hung := by
  have drained : (drainStall s).hung = s.hung := by
    rcases h with h | h
    · rw [drainStall_of_none s h]
    · rw [(drainStall_ends s h).2, drainLoop_hung]
  exact (endCycle_hung _).trans drained

/-! ### The step that runs no instruction -/

theorem settle_endless {s : State} (h : s.hung = true) : settle s = .fault (.endlessStall s) := by
  simp only [settle, h, if_true]

theorem step_of_trapped {s : State} (hf : s.fault = none) (ht : s.trapped = true) :
    step s = settle (tick { s with delta := 0 }) := by
  simp only [step, hf, ht, if_true]

theorem step_of_faulted {s : State} {kind : FaultKind} (hf : s.fault = some kind) :
    step s = .fault (.alreadyFaulted kind s) := by
  simp only [step, hf]

/-- Settles O29: the step of a trapped CPU is one settled `tick`, which keeps what every cycle without a store keeps
(`cycled_tick`) and is marked as endless only where its drain does not end (`tick_hung`). -/
theorem trappedAndFaulted : Obligations.TrappedAndFaulted := by
  unfold Obligations.TrappedAndFaulted
  intro s
  refine ⟨fun hf ht => ?_, fun kind hf => step_of_faulted hf⟩
  have hstep := step_of_trapped hf ht
  have idle := cycled_tick { s with delta := 0 }
  refine ⟨fun live => ?runs, fun hung => ?endless, fun hn ends => ?stalled, ?trapped, idle.regs, idle.undisturbed⟩
  case runs => exact hstep.trans (settle_next.mpr ⟨live, rfl⟩)
  case endless => exact hstep.trans (settle_endless hung)
  case stalled => exact (tick_hung { s with delta := 0 } ends).trans hn
  case trapped => exact idle.trapped.trans ht

end Sys2Proof.Machine
end

section
/-!
SUPPORT. What a step is made of, said once: every cycle of every instruction is a bus access and the end of a cycle, and
between them only the CPU's own fields change (20_memory.md R131). A fact that these moves keep is a fact of every step.
-/

namespace Sys2Proof.Machine

/-! ### The moves -/

/-- The states differ at most in the CPU's registers and run state, the ports and the free-value counters: parameters,
clocks, memories and devices are the same. -/
structure SameDevices (s t : State) : Prop where
  cfg : t.cfg = s.cfg := by rfl
  cycles : t.cycles = s.cycles := by rfl
  delta : t.delta = s.delta := by rfl
  palPhase : t.palPhase = s.palPhase := by rfl
  ram : t.ram = s.ram := by rfl
  exram : t.exram = s.exram := by rfl
  sram : t.sram = s.sram := by rfl
  flat : t.flat = s.flat := by rfl
  ppu : t.ppu = s.ppu := by rfl
  apu : t.apu = s.apu := by rfl
  cart : t.cart = s.cart := by rfl

theorem SameDevices.trans {s t u : State} (h : SameDevices s t) (k : SameDevices t u) : SameDevices s u :=
  ⟨k.cfg.trans h.cfg, k.cycles.trans h.cycles, k.delta.trans h.delta, k.palPhase.trans h.palPhase, k.ram.trans h.ram,
    k.exram.trans h.exram, k.sram.trans h.sram, k.flat.trans h.flat, k.ppu.trans h.ppu, k.apu.trans h.apu,
    k.cart.trans h.cart⟩

/-- What a step is made of. -/
inductive Move : State → State → Prop
  /-- a change of the CPU's own fields -/
  | cpu {s t : State} (same : SameDevices s t) : Move s t
  /-- the end of a cycle -/
  | cycle (s : State) : Move s (endCycle s)
  /-- a bus read -/
  | read (addr : Addr) (s : State) : Move s (busRead addr s).2
  /-- a bus write -/
  | write (addr : Addr) (v : Byte) (s : State) : Move s (busWrite addr v s)

/-- Any number of moves. -/
def Moves : State → State → Prop := Relation.ReflTransGen Move

theorem Moves.refl (s : State) : Moves s s := Relation.ReflTransGen.refl

theorem Moves.tail {s t u : State} (h : Moves s t) (k : Move t u) : Moves s u := Relation.ReflTransGen.tail h k

theorem Moves.trans {s t u : State} (h : Moves s t) (k : Moves t u) : Moves s u := Relation.ReflTransGen.trans h k

/-- A reflexive and transitive relation that holds of every move holds of any number of them. -/
theorem Moves.lift {R : State → State → Prop} (refl : ∀ s, R s s) (trans : ∀ {s t u}, R s t → R t u → R s u)
    (move : ∀ {s t}, Move s t → R s t) {s t : State} (h : Moves s t) : R s t := by
  induction h with
  | refl => exact refl s
  | tail _ m ih => exact trans ih (move m)

theorem Moves.ite {s t u : State} {c : Prop} [Decidable c] (h : Moves s t) (k : Moves s u) :
    Moves s (if c then t else u) := by
  split
  · exact h
  · exact k

/-! ### The controller ports -/

theorem sameDevices_latchButtons (second : Bool) (s : State) : SameDevices s (latchButtons second s).2 := by
  unfold latchButtons
  split <;> exact {}

theorem sameDevices_padStrobe (v : Byte) (s : State) : SameDevices s (padStrobe v s) := by
  unfold padStrobe
  split
  · exact ((sameDevices_latchButtons false s).trans (sameDevices_latchButtons true _)).trans {}
  · exact {}

theorem sameDevices_padRead (second : Bool) (s : State) : SameDevices s (padRead second s).2 := by
  unfold padRead
  split
  · exact (sameDevices_latchButtons second s).trans {}
  · exact {}

/-! ### One operation more: cycles, the stack and the fetch -/

theorem Moves.cpu {s t u : State} (h : Moves s t) (same : SameDevices t u) : Moves s u := h.tail (.cpu same)

theorem Moves.setRegs {s t : State} (h : Moves s t) (f : Regs → Regs) : Moves s (setRegs f t) := h.cpu {}

theorem moves_drainLoop (n : Nat) (s : State) : Moves s (drainLoop n s) := by
  induction n generalizing s with
  | zero => exact .refl s
  | succ n ih =>
    have turn : Moves s (drainTurn s) := ((Moves.refl s).cpu {}).tail (.cycle { s with stall := s.stall - 1 })
    unfold drainLoop
    exact .ite (.refl s) (turn.trans (ih _))

theorem Moves.drainStall {s t : State} (h : Moves s t) : Moves s (drainStall t) := by
  unfold Machine.drainStall
  exact .ite h ((h.trans (moves_drainLoop _ t)).cpu {})

theorem Moves.tick {s t : State} (h : Moves s t) : Moves s (tick t) := h.drainStall.tail (.cycle _)

theorem Moves.memRead {s t : State} (h : Moves s t) (addr : Addr) : Moves s (memRead addr t).2 :=
  (h.drainStall.tail (.read addr _)).tail (.cycle _)

theorem Moves.memWrite {s t : State} (h : Moves s t) (addr : Addr) (v : Byte) : Moves s (memWrite addr v t) :=
  (h.drainStall.tail (.write addr v _)).tail (.cycle _)

theorem Moves.push {s t : State} (h : Moves s t) (v : Byte) : Moves s (push v t) := (h.memWrite _ v).setRegs _

theorem Moves.pull {s t : State} (h : Moves s t) : Moves s (pull t).2 := (h.setRegs _).memRead _

theorem Moves.fetchByte {s t : State} (h : Moves s t) : Moves s (fetchByte t).2 := (h.memRead t.regs.pc).cpu {}

/-- After the cycle that reads the opcode, an instruction's fetch is none, one or two byte fetches. -/
theorem moves_fetchInstr (s : State) : Moves (memRead s.regs.pc s).2 (fetchInstr s).2 := by
  have opcode : Moves (memRead s.regs.pc s).2 (fetchByte s).2 := (Moves.refl _).cpu {}
  unfold fetchInstr
  dsimp only
  split
  · exact opcode
  · split
    · exact opcode
    · exact opcode.fetchByte
  · split
    · exact opcode
    · split
      · exact opcode.fetchByte
      · exact opcode.fetchByte.fetchByte

/-! ### Operands -/

theorem Moves.indexedAddress {s t : State} (h : Moves s t) (cls : AccessClass) (base : Addr) (index : Byte) :
    Moves s (indexedAddress cls base index t).2 := by
  cases cls with
  | read => exact .ite h.tick h
  | write => exact h.tick
  | rmw => exact h.tick

theorem Moves.zpPointer {s t : State} (h : Moves s t) (p : Byte) : Moves s (zpPointer p t).2 :=
  (h.memRead _).memRead _

theorem Moves.effectiveAddress {s t : State} (h : Moves s t) (cls : AccessClass) (m : EaMode) :
    Moves s (effectiveAddress cls m t).2 := by
  cases m with
  | zp => exact h
  | zpx => exact h.tick
  | zpy => exact h.tick
  | abs => exact h
  | abx => exact h.indexedAddress _ _ _
  | aby => exact h.indexedAddress _ _ _
  | izx => exact h.tick.zpPointer _
  | izy => exact (h.zpPointer _).indexedAddress _ _ _

theorem Moves.modifyMemory {s t : State} (h : Moves s t) (op : Byte → Regs → Byte × Regs) (m : EaMode) :
    Moves s (modifyMemory op m t) :=
  ((((h.effectiveAddress .rmw m).memRead _).tick.setRegs _).memWrite _ _)

theorem Moves.takeBranch {s t : State} (h : Moves s t) (off : Byte) : Moves s (takeBranch off t) := by
  unfold Machine.takeBranch
  exact (Moves.ite h.tick.tick h.tick).setRegs _

/-! ### Jumps, interrupts and OAM DMA -/

theorem Moves.enterPush {s t : State} (h : Moves s t) (kind : EntryKind) : Moves s (enterPush kind t) := by
  unfold Machine.enterPush
  cases kind with
  | brk => exact (((h.push _).push _).push _).setRegs _
  | irq => exact (((h.tick.tick.push _).push _).push _).setRegs _
  | nmi => exact (((h.tick.tick.push _).push _).push _).setRegs _

theorem Moves.loadVector {s t : State} (h : Moves s t) (vec : Addr) : Moves s (loadVector vec t) := by
  unfold Machine.loadVector
  exact ((h.memRead _).memRead _).setRegs _

theorem Moves.enterInterrupt {s t : State} (h : Moves s t) (kind : EntryKind) : Moves s (enterInterrupt kind t) := by
  unfold Machine.enterInterrupt
  exact ((h.enterPush kind).cpu {}).loadVector _

theorem Moves.takeInterrupt {s t : State} (h : Moves s t) (kind : EntryKind) : Moves s (takeInterrupt kind t) :=
  (h.enterInterrupt kind).cpu {}

theorem Moves.returnFromInterrupt {s t : State} (h : Moves s t) : Moves s (returnFromInterrupt t) := by
  unfold Machine.returnFromInterrupt
  exact (h.pull.setRegs _).pull.pull.setRegs _

theorem Moves.jumpSubroutine {s t : State} (h : Moves s t) (lo : Byte) : Moves s (jumpSubroutine lo t) := by
  unfold Machine.jumpSubroutine
  exact (((h.tick.push _).push _).memRead _).setRegs _

theorem Moves.interruptCheck {s t : State} (h : Moves s t) (m : Mnemonic) : Moves s (interruptCheck m t) := by
  have polled : Moves s { t with prevCli := m == .CLI } := h.cpu {}
  unfold Machine.interruptCheck
  dsimp only
  split
  · exact h.cpu {}
  split
  · exact polled.takeInterrupt .nmi
  split
  · exact polled.takeInterrupt .irq
  · exact polled

theorem moves_oamDmaLoop (page : Byte) (k : Nat) (s : State) : Moves s (oamDmaLoop page k s) := by
  induction k generalizing s with
  | zero => exact .refl s
  | succ k ih => exact (((Moves.refl s).memRead _).memWrite _ _).trans (ih _)

theorem Moves.oamDma {s t : State} (h : Moves s t) (page : Byte) : Moves s (oamDma page t) := by
  have halt : Moves s (Machine.tick { t with oamDmaPage := none }) := Moves.tick (h.cpu {})
  unfold Machine.oamDma
  dsimp only
  exact (Moves.ite halt.tick halt).trans (moves_oamDmaLoop page 256 _)

theorem Moves.runOamDma {s t : State} (h : Moves s t) : Moves s (runOamDma t) := by
  unfold Machine.runOamDma
  split
  · exact h.oamDma _
  · exact h

theorem Moves.finishStep {s t : State} (h : Moves s t) (m : Mnemonic) (iBefore : Bool) :
    Moves s (finishStep m iBefore t) :=
  .ite h (Moves.interruptCheck (h.runOamDma.cpu {}) m)

/-! ### Every meaning -/

/-- What an instruction can mean: an access class over an operation, or one of the sequences of its own. -/
inductive Meaning : (State → Host.Outcome State Fault Refusal) → Prop
  | immediate (op : Byte → Regs → Regs) (m : Byte) : Meaning (runImmediate op m)
  | read (op : Byte → Regs → Regs) (m : EaMode) : Meaning (runRead op m)
  | write (value : Regs → Byte) (m : EaMode) : Meaning (runWrite value m)
  | modify (op : Byte → Regs → Byte × Regs) (m : EaMode) : Meaning (runModify op m)
  | accumulator (op : Byte → Regs → Byte × Regs) : Meaning (runAccumulator op)
  | implied (op : Regs → Regs) : Meaning (runImplied op)
  | branch (condition : Flags → Bool) (off : Byte) : Meaning (runBranch condition off)
  | optional {run : State → Host.Outcome State Fault Refusal} (meaning : Meaning run) : Meaning (runOptional run)
  | slot : Meaning raiseUnimplemented
  | nop : Meaning execNop
  | jam : Meaning execJam02
  | jmpAbs (addr : Addr) : Meaning (execJmpAbs addr)
  | jmpInd (addr : Addr) : Meaning (execJmpInd addr)
  | jsr (addr : Addr) : Meaning (execJsrAbs addr)
  | rts : Meaning execRts
  | rti : Meaning execRti
  | brk : Meaning execBrk
  | pha : Meaning execPha
  | php : Meaning execPhp
  | pla : Meaning execPla
  | plp : Meaning execPlp

/-- Every arm of the dispatch is one of these meanings. -/
theorem exec_meaning : ∀ i : Instr, Meaning (exec i)
  | .oraImm _ | .andImm _ | .eorImm _ | .adcImm _ | .nopImm80 _ | .nopImm82 _ | .nopImm89 _ | .ldyImm _ | .ldxImm _
  | .ldaImm _ | .cpyImm _ | .nopImmC2 _ | .cmpImm _ | .cpxImm _ | .nopImmE2 _ | .sbcImm _
  | .sbcImmEB _ => .immediate _ _
  | .oraIzx _ | .nopZp04 _ | .oraZp _ | .nopAbs _ | .oraAbs _ | .oraIzy _ | .nopZpx14 _ | .oraZpx _ | .oraAby _
  | .nopAbx1C _ | .oraAbx _ | .andIzx _ | .bitZp _ | .andZp _ | .bitAbs _ | .andAbs _ | .andIzy _ | .nopZpx34 _
  | .andZpx _ | .andAby _ | .nopAbx3C _ | .andAbx _ | .eorIzx _ | .nopZp44 _ | .eorZp _ | .eorAbs _ | .eorIzy _
  | .nopZpx54 _ | .eorZpx _ | .eorAby _ | .nopAbx5C _ | .eorAbx _ | .adcIzx _ | .nopZp64 _ | .adcZp _ | .adcAbs _
  | .adcIzy _ | .nopZpx74 _ | .adcZpx _ | .adcAby _ | .nopAbx7C _ | .adcAbx _ | .ldaIzx _ | .laxIzx _ | .ldyZp _
  | .ldaZp _ | .ldxZp _ | .laxZp _ | .ldyAbs _ | .ldaAbs _ | .ldxAbs _ | .laxAbs _ | .ldaIzy _ | .laxIzy _
  | .ldyZpx _ | .ldaZpx _ | .ldxZpy _ | .laxZpy _ | .ldaAby _ | .ldyAbx _ | .ldaAbx _ | .ldxAby _ | .laxAby _
  | .cmpIzx _ | .cpyZp _ | .cmpZp _ | .cpyAbs _ | .cmpAbs _ | .cmpIzy _ | .nopZpxD4 _ | .cmpZpx _ | .cmpAby _
  | .nopAbxDC _ | .cmpAbx _ | .sbcIzx _ | .cpxZp _ | .sbcZp _ | .cpxAbs _ | .sbcAbs _ | .sbcIzy _ | .nopZpxF4 _
  | .sbcZpx _ | .sbcAby _ | .nopAbxFC _ | .sbcAbx _ => .read _ _
  | .staIzx _ | .saxIzx _ | .styZp _ | .staZp _ | .stxZp _ | .saxZp _ | .styAbs _ | .staAbs _ | .stxAbs _ | .saxAbs _
  | .staIzy _ | .styZpx _ | .staZpx _ | .stxZpy _ | .saxZpy _ | .staAby _ | .staAbx _ => .write _ _
  | .sloIzx _ | .aslZp _ | .sloZp _ | .aslAbs _ | .sloAbs _ | .sloIzy _ | .aslZpx _ | .sloZpx _ | .sloAby _
  | .aslAbx _ | .sloAbx _ | .rlaIzx _ | .rolZp _ | .rlaZp _ | .rolAbs _ | .rlaAbs _ | .rlaIzy _ | .rolZpx _
  | .rlaZpx _ | .rlaAby _ | .rolAbx _ | .rlaAbx _ | .sreIzx _ | .lsrZp _ | .sreZp _ | .lsrAbs _ | .sreAbs _
  | .sreIzy _ | .lsrZpx _ | .sreZpx _ | .sreAby _ | .lsrAbx _ | .sreAbx _ | .rraIzx _ | .rorZp _ | .rraZp _
  | .rorAbs _ | .rraAbs _ | .rraIzy _ | .rorZpx _ | .rraZpx _ | .rraAby _ | .rorAbx _ | .rraAbx _ | .dcpIzx _
  | .decZp _ | .dcpZp _ | .decAbs _ | .dcpAbs _ | .dcpIzy _ | .decZpx _ | .dcpZpx _ | .dcpAby _ | .decAbx _
  | .dcpAbx _ | .isbIzx _ | .incZp _ | .isbZp _ | .incAbs _ | .isbAbs _ | .isbIzy _ | .incZpx _ | .isbZpx _
  | .isbAby _ | .incAbx _ | .isbAbx _ => .modify _ _
  | .aslAcc | .rolAcc | .lsrAcc | .rorAcc => .accumulator _
  | .clc | .sec | .cli | .sei | .dey | .txa | .tya | .txs | .tay | .tax | .clv | .tsx | .iny | .dex | .cld | .inx
  | .sed => .implied _
  | .bmiRel _ | .bvsRel _ | .bcsRel _ | .beqRel _ => .branch _ _
  | .bplRel _ => .branch (fun p => !p.n) _
  | .bvcRel _ => .branch (fun p => !p.v) _
  | .bccRel _ => .branch (fun p => !p.c) _
  | .bneRel _ => .branch (fun p => !p.z) _
  | .ancImm0B _ | .ancImm2B _ | .alrImm _ | .arrImm _ | .sbxImm _ => .optional (.immediate _ _)
  | .lasAby _ => .optional (.read _ _)
  | .xaaImm _ | .shaIzy _ | .tasAby _ | .shyAbx _ | .shxAby _ | .shaAby _ | .lxaImm _ => .slot
  | .nop1A | .nop3A | .nop5A | .nop7A | .nopDA | .nop | .nopFA => .nop
  | .jam02 | .jam12 | .jam22 | .jam32 | .jam42 | .jam52 | .jam62 | .jam72 | .jam92 | .jamB2 | .jamD2 | .jamF2 => .jam
  | .jmpAbs _ => .jmpAbs _
  | .jmpInd _ => .jmpInd _
  | .jsrAbs _ => .jsr _
  | .rts => .rts
  | .rti => .rti
  | .brk => .brk
  | .pha => .pha
  | .php => .php
  | .pla => .pla
  | .plp => .plp

/-- The state a fault stops in. -/
def Fault.final : Fault → State
  | .unimplementedOpcode t => t
  | .alreadyFaulted _ t => t
  | .endlessStall t => t

/-- Moves lead from `s` to the state an outcome leaves, and it is no refusal. -/
def Reaches (s : State) : Host.Outcome State Fault Refusal → Prop
  | .next t => Moves s t
  | .fault r => Moves s r.final
  | .refused _ => False

theorem Reaches.stepState {s u : State} (h : Reaches u (step s)) : Moves u (stepState s) := by
  unfold Machine.stepState
  generalize step s = o at h ⊢
  match o, h with
  | .next _, h => exact h
  | .fault (.unimplementedOpcode _), h => exact h
  | .fault (.alreadyFaulted _ _), h => exact h
  | .fault (.endlessStall _), h => exact h

theorem Reaches.settle {s t : State} (h : Moves s t) : Reaches s (settle t) := by
  unfold Machine.settle
  split
  · exact h
  · exact h

theorem reaches_raiseUnimplemented (s : State) : Reaches s (raiseUnimplemented s) := (Moves.refl s).cpu {}

/-- A meaning makes moves, whatever its outcome. -/
theorem Meaning.reaches {run : State → Host.Outcome State Fault Refusal} (meaning : Meaning run) (s : State) :
    Reaches s (run s) := by
  have start := Moves.refl s
  induction meaning with
  | immediate op m => exact start.setRegs _
  | read op m => exact ((start.effectiveAddress .read m).memRead _).setRegs _
  | write value m => exact (start.effectiveAddress .write m).memWrite _ _
  | modify op m => exact start.modifyMemory op m
  | accumulator op => exact start.tick.cpu {}
  | implied op => exact start.tick.setRegs _
  | branch condition off => exact .ite (start.takeBranch off) start
  | optional meaning ih =>
    unfold runOptional
    split
    · exact ih
    · exact reaches_raiseUnimplemented s
  | slot => exact reaches_raiseUnimplemented s
  | nop => exact start.tick
  | jam => exact start.cpu {}
  | jmpAbs addr => exact start.cpu {}
  | jmpInd addr => exact ((start.memRead addr).memRead _).cpu {}
  | jsr addr => exact start.jumpSubroutine (loByte addr)
  | rts => exact start.tick.tick.pull.pull.tick.cpu {}
  | rti => exact start.tick.tick.returnFromInterrupt
  | brk => exact Moves.enterInterrupt (start.tick.setRegs _) .brk
  | pha => exact start.tick.push _
  | php => exact start.tick.push _
  | pla => exact start.tick.tick.pull.cpu {}
  | plp => exact start.tick.tick.pull.cpu {}

/-! ### The step -/

/-- A step of a core with no fault, whatever its outcome, is made of moves, and one of them ends a cycle: the idle one
of a trapped CPU, else the opcode fetch's. -/
theorem stepState_moves {s : State} (running : s.fault = none) :
    ∃ u, Moves { s with delta := 0 } u ∧ Moves (endCycle u) (stepState s) := by
  have start := Moves.refl { s with delta := 0 }
  by_cases trapped : s.trapped = true
  · refine ⟨_, start.drainStall, Reaches.stepState ?_⟩
    rw [step_of_trapped running trapped]
    exact Reaches.settle (Moves.refl _)
  · refine ⟨_, start.drainStall.tail (.read s.regs.pc _), Reaches.stepState ?_⟩
    have fetched := moves_fetchInstr { s with delta := 0 }
    have executed := (exec_meaning (fetchInstr { s with delta := 0 }).1).reaches (fetchInstr { s with delta := 0 }).2
    unfold step
    split
    next faulted => cases running.symm.trans faulted
    next =>
      dsimp only
      rw [if_neg trapped]
      split
      · exact fetched
      · generalize exec _ _ = o at executed ⊢
        match o, executed with
        | .next _, executed => exact Reaches.settle ((fetched.trans executed).finishStep _ _)
        | .fault _, executed => exact fetched.trans executed

end Sys2Proof.Machine
end

section
/-!
SUPPORT. O31: no move of a step changes a parameter or the cartridge's ROM, and each counts its cycles in `delta` as in
`cycles`.
-/

namespace Sys2Proof.Machine

/-! ### The cartridge's ROM -/

/-- Same ROM bytes and page counts: what the mapper's registers and CHR RAM are no part of. -/
structure Cart.SameRom (c d : Cart) : Prop where
  prg : d.prg = c.prg := by rfl
  chr : d.chr = c.chr := by rfl
  nPrg : d.nPrg = c.nPrg := by rfl
  nChr : d.nChr = c.nChr := by rfl

theorem Cart.SameRom.of_eq {c d : Cart} (h : d = c) : c.SameRom d := by subst h; exact {}

theorem Cart.SameRom.trans {c d e : Cart} (h : c.SameRom d) (k : d.SameRom e) : c.SameRom e :=
  ⟨k.prg.trans h.prg, k.chr.trans h.chr, k.nPrg.trans h.nPrg, k.nChr.trans h.nChr⟩

/-- A PPUDATA write stores at most a byte of CHR RAM (63_mapper_and_ports.md R623). -/
theorem Cart.sameRom_ppuRegWrite (c : Cart) (p : Ppu) (r : Nat) (v : Byte) : c.SameRom (c.ppuRegWrite p r v) := by
  simp only [Cart.ppuRegWrite, Cart.ppuSpaceWrite, Cart.ppuWrite]
  (repeat' split) <;> exact {}

/-- A bus write changes no ROM: the cartridge takes it as a register or CHR RAM write (63_mapper_and_ports.md R622). -/
theorem sameRom_busWrite (addr : Addr) (v : Byte) (s : State) : s.cart.SameRom (busWrite addr v s).cart := by
  unfold busWrite
  split
  · rcases consoleWrite_cases addr v s with ⟨-, e⟩ | ⟨-, -, e⟩ | ⟨-, -, -, -, _, e⟩ | ⟨-, e⟩ | ⟨-, e⟩ | ⟨-, -, e⟩ |
      ⟨-, -, e⟩ | ⟨-, -, e⟩ | ⟨-, e⟩ <;> rw [e]
    · exact {}
    · exact s.cart.sameRom_ppuRegWrite s.ppu _ v
    · exact {}
    · exact {}
    · exact .of_eq (sameDevices_padStrobe v s).cart
    · exact {}
    · exact {}
    · exact {}
    · exact {}
  · exact {}

/-! ### The moves -/

/-- The parameters and the ROM are the same, the cycles go forward, and `delta` counts what `cycles` counts. -/
structure CountedCycles (s t : State) : Prop where
  cfg : t.cfg = s.cfg
  rom : s.cart.SameRom t.cart
  forward : s.cycles ≤ t.cycles
  count : t.cycles + s.delta = s.cycles + t.delta

theorem CountedCycles.refl (s : State) : CountedCycles s s := ⟨rfl, {}, Nat.le_refl _, rfl⟩

theorem CountedCycles.trans {s t u : State} (h : CountedCycles s t) (k : CountedCycles t u) : CountedCycles s u :=
  ⟨k.cfg.trans h.cfg, h.rom.trans k.rom, Nat.le_trans h.forward k.forward, by
    have := h.count
    have := k.count
    omega⟩

theorem Cycled.counted {s t : State} (h : Cycled s t) : CountedCycles s t :=
  ⟨h.cfg, .of_eq h.cart, h.clocked.forward, h.clocked.count⟩

theorem Move.counted {s t : State} (h : Move s t) : CountedCycles s t := by
  cases h with
  | cpu same => exact ⟨same.cfg, .of_eq same.cart, same.cycles.ge, by rw [same.cycles, same.delta]⟩
  | cycle => exact (cycled_endCycle s).counted
  | read addr => exact (cycled_busRead addr s).counted
  | write addr v =>
    obtain ⟨-, run, clocked⟩ := busWrite_run addr v s
    exact ⟨run.cfg, sameRom_busWrite addr v s, clocked.forward, clocked.count⟩

theorem Moves.counted {s t : State} (h : Moves s t) : CountedCycles s t := h.lift .refl .trans Move.counted

theorem endCycle_cycles_lt (s : State) : s.cycles < (endCycle s).cycles :=
  Nat.lt_succ_of_le (cycled_clockDevices s).clocked.forward

/-- Settles O31: every move of the step counts its cycles and keeps the parameters and the ROM (`Moves.counted`), and
one of them ends a cycle (`stepState_moves`). -/
theorem stepClock : Obligations.StepClock := by
  unfold Obligations.StepClock
  rintro s _ running rfl
  obtain ⟨u, before, after⟩ := stepState_moves running
  have step : CountedCycles { s with delta := 0 } (stepState s) :=
    (before.counted.trans (cycled_endCycle u).counted).trans after.counted
  have moved : s.cycles < (stepState s).cycles :=
    calc s.cycles ≤ u.cycles := before.counted.forward
      _ < (endCycle u).cycles := endCycle_cycles_lt u
      _ ≤ (stepState s).cycles := after.counted.forward
  have count : (stepState s).cycles + 0 = s.cycles + (stepState s).delta := step.count
  refine ⟨by omega, count, step.cfg, fun a => ?_, fun a => ?_, step.rom.nPrg, step.rom.nChr⟩
  · simp only [cellByte, step.rom.prg]
  · simp only [cellByte, step.rom.chr]

end Sys2Proof.Machine
end

section
/-!
SUPPORT. O32, the PPU: a dot and the accesses of its registers keep its invariant. Each stage of a dot is one lemma; the
evaluation bounds the sprite list, the pixel output keeps the frame buffer canonical, the advance the counters.
-/

namespace Sys2Proof.Machine

/-! ### One dot -/

theorem Ppu.Inv.ite {p q : Ppu} {c : Prop} [Decidable c] (h : p.Inv) (k : q.Inv) : (if c then p else q).Inv := by
  split
  · exact h
  · exact k

theorem Ppu.Inv.flagEvents {p : Ppu} (h : p.Inv) : p.flagEvents.Inv :=
  .ite (.ite { h with } (.ite { h with } h)) h

theorem Ppu.Inv.tileStep {p : Ppu} (h : p.Inv) (c : Cart) : (p.tileStep c).Inv := by
  unfold Ppu.tileStep
  split <;> exact { h with }

theorem Ppu.Inv.background {p : Ppu} (h : p.Inv) (c : Cart) : (p.background c).Inv := by
  unfold Ppu.background
  extract_lets d shifted tiled nextRow reloaded nextLine fetched
  have hShifted : shifted.Inv := .ite { h with } h
  have hTiled : tiled.Inv := .ite (hShifted.tileStep c) hShifted
  have hNextRow : nextRow.Inv := .ite { hTiled with } hTiled
  have hNextLine : nextLine.Inv := .ite { hNextRow with } hNextRow
  have hFetched : fetched.Inv := .ite { hNextLine with } hNextLine
  exact .ite (.ite { hFetched with } hFetched) h

/-- The first loop of the evaluation selects no more sprites than it has room for (61_ppu.md R500). -/
theorem Ppu.selectSprites_length (p : Ppu) (k n room : Nat) : (p.selectSprites k n room).1.length ≤ room := by
  induction k generalizing n room with
  | zero => exact Nat.zero_le _
  | succ k ih =>
    unfold Ppu.selectSprites
    split
    · exact Nat.zero_le _
    · split
      · have := ih (n + 1) (room - 1)
        simp only [List.length_cons]
        omega
      · exact ih (n + 1) room

theorem Ppu.Inv.evaluateSprites {p : Ppu} (h : p.Inv) (c : Cart) : (p.evaluateSprites c).Inv :=
  { h with sprites := by simpa [Ppu.evaluateSprites] using p.selectSprites_length 64 0 8 }

theorem Ppu.Inv.spriteStep {p : Ppu} (h : p.Inv) (cfg : Params) (c : Cart) : (p.spriteStep cfg c).Inv := by
  unfold Ppu.spriteStep
  extract_lets q
  have hq : q.Inv := .ite (.ite (h.evaluateSprites c) { h with sprites := Nat.zero_le _ }) h
  exact .ite (.ite { hq with } hq) h

/-! ### The frame buffer and the counters -/

theorem sortedGet_mem {α : Type} {l : List (Nat × α)} {a : Nat} {v : α} (h : sortedGet l a = some v) : (a, v) ∈ l := by
  induction l with
  | nil => cases h
  | cons p l ih =>
    obtain ⟨k, w⟩ := p
    simp only [sortedGet] at h
    split at h
    · cases h
    · split at h
      next e => cases e; cases h; exact List.mem_cons_self
      next => exact List.mem_cons_of_mem _ (ih h)

/-- What holds of every entry and of a new one holds of every entry after it is put. -/
theorem all_sortedPut {α : Type} (f : Nat × α → Bool) {l : List (Nat × α)} {a : Nat} {v : α} (h : l.all f = true)
    (hv : f (a, v) = true) : (sortedPut l a v).all f = true := by
  induction l with
  | nil => simpa [sortedPut] using hv
  | cons p l ih =>
    obtain ⟨k, w⟩ := p
    simp only [List.all_cons, Bool.and_eq_true] at h
    simp only [sortedPut]
    split
    · simp [hv, h.1, h.2]
    · split
      · simp [hv, h.2]
      · simp [h.1, ih h.2]

theorem rowWf_sortedPut {row : List (Nat × BitVec 6)} {x : Nat} {col : BitVec 6} (hx : x < 256)
    (h : rowWf row = true) : rowWf (sortedPut row x col) = true := by
  simp only [rowWf, Bool.and_eq_true] at h ⊢
  exact ⟨rising_sortedPut row x col h.1, keysBelow_sortedPut 256 row x col hx h.2⟩

theorem Frame.wf_sortedPut {f : Frame} {line : Nat} {row : List (Nat × BitVec 6)} (hl : line < 240)
    (hr : rowWf row = true) (h : f.wf = true) : Frame.wf (sortedPut f line row) = true := by
  simp only [Frame.wf, Bool.and_eq_true] at h ⊢
  obtain ⟨⟨rises, below⟩, rows⟩ := h
  exact ⟨⟨rising_sortedPut f line row rises, keysBelow_sortedPut 240 f line row hl below⟩, all_sortedPut _ rows hr⟩

theorem Frame.wf_put {f : Frame} {line x : Nat} {col : BitVec 6} (hl : line < 240) (hx : x < 256) (h : f.wf = true) :
    (f.put line x col).wf = true := by
  unfold Frame.put
  split
  next row hrow =>
    have old : rowWf row = true := by
      have h' := h
      simp only [Frame.wf, Bool.and_eq_true, List.all_eq_true] at h'
      exact h'.2 _ (sortedGet_mem hrow)
    exact Frame.wf_sortedPut hl (rowWf_sortedPut hx old) h
  next => exact Frame.wf_sortedPut hl (rowWf_sortedPut (row := []) hx rfl) h

theorem Ppu.Inv.pixelStep {p : Ppu} (h : p.Inv) (cfg : Params) : (p.pixelStep cfg).Inv := by
  unfold Ppu.pixelStep
  split
  next visible => exact { h with frame := Frame.wf_put visible.1 (by omega) h.frame }
  next => exact h

theorem Ppu.Inv.advance {p : Ppu} (h : p.Inv) : p.advance.Inv := by
  have dot := h.dot
  have scanline := h.scanline
  unfold Ppu.advance
  refine .ite { h with dot := Nat.zero_le _, scanline := Nat.zero_le _ } ?_
  split
  · split
    · exact { h with dot := Nat.zero_le _, scanline := Nat.zero_le _ }
    · exact { h with dot := Nat.zero_le _, scanline := show p.scanline + 1 ≤ 261 by omega }
  · exact { h with dot := show p.dot + 1 ≤ 340 by omega }

theorem Ppu.Inv.dotStep {p : Ppu} (h : p.Inv) (cfg : Params) (c : Cart) : (p.dotStep cfg c).Inv :=
  (((h.flagEvents.background c).spriteStep cfg c).pixelStep cfg).advance

/-! ### The registers -/

theorem Ppu.Inv.regRead {p : Ppu} (h : p.Inv) (c : Cart) (r : Nat) : (p.regRead c r).2.Inv := by
  unfold Ppu.regRead
  split
  · exact { h with }
  · exact { h with }
  · dsimp only
    split <;> exact { h with }
  · exact h

theorem ntIndex_lt (mode : Mirroring) (a : Nat) : ntIndex mode a < 2048 := by
  have bank : ntBank mode (a / 0x400 % 4) ≤ 1 := by cases mode <;> simp only [ntBank] <;> omega
  unfold ntIndex
  omega

theorem palIndex_lt (a : Nat) : palIndex a < 32 := by
  simp only [palIndex]
  split <;> omega

theorem Ppu.Inv.write {p : Ppu} (h : p.Inv) (c : Cart) (a : Nat) (v : Byte) : (p.write c a v).Inv :=
  .ite h (.ite { h with vram := Memory.wf_write 2048 _ _ v (ntIndex_lt _ a) h.vram }
    { h with palette := Memory.wf_write 32 _ _ v (palIndex_lt a) h.palette })

theorem Ppu.Inv.scrollWrite {p : Ppu} (h : p.Inv) (v : Byte) : (p.scrollWrite v).Inv := by
  have fine : (v &&& 7).toNat < 8 := by
    rw [BitVec.toNat_and]
    exact Nat.lt_of_le_of_lt Nat.and_le_right (by decide)
  exact .ite { h with } { h with fineX := fine }

theorem Ppu.Inv.addrWrite {p : Ppu} (h : p.Inv) (v : Byte) : (p.addrWrite v).Inv := .ite { h with } { h with }

theorem Ppu.Inv.regWrite {p : Ppu} (h : p.Inv) (c : Cart) (r : Nat) (v : Byte) : (p.regWrite c r v).Inv := by
  have latched : { p with latch := v }.Inv := { h with }
  unfold Ppu.regWrite
  dsimp only
  split
  · exact { h with }
  · exact { h with }
  · exact latched
  · exact { h with }
  · exact { h with oam := Memory.wf_write 256 _ _ v p.oamaddr.isLt h.oam }
  · exact latched.scrollWrite v
  · exact latched.addrWrite v
  · exact { latched.write c (p.v.toNat % 0x4000) v with }

end Sys2Proof.Machine
end

section
/-!
SUPPORT. O32, the APU: a tick and the register writes keep its invariant. The sequencer's counter wraps at the last
offset of its mode, the noise register never empties, and the DMC counts bits from 8 and reads at 0x8000 or above.
-/

namespace Sys2Proof.Machine

/-! ### The noise channel -/

/-- The bit fed back is bit 0 with one of bits 6 and 1, so a register with a bit set keeps one (62_apu.md R585). -/
theorem lfsrStep_ne_zero (mode : Bool) {l : BitVec 15} (h : l ≠ 0) : lfsrStep mode l ≠ 0 := by
  intro zero
  have bit (k : Nat) : (lfsrStep mode l).getLsbD k = false := by rw [zero]; exact BitVec.getLsbD_zero
  simp only [lfsrStep, BitVec.getLsbD_append, BitVec.getLsbD_extractLsb'] at bit
  have shifted (k : Nat) (hk : k < 14) : l.getLsbD (1 + k) = false := by simpa [hk] using bit k
  have one : l.getLsbD 1 = false := shifted 0 (by decide)
  have six : l.getLsbD 6 = false := shifted 5 (by decide)
  have fed : l.getLsbD 0 = false := by
    have top := bit 14
    simp only [one, six] at top
    simpa using top
  refine h (BitVec.eq_of_getLsbD_eq fun k hk => ?_)
  cases k with
  | zero => simpa using fed
  | succ k => simpa [Nat.add_comm] using shifted k (by omega)

theorem Noise.clockTimer_lfsr_ne_zero (region : Region) {n : Noise} (h : n.lfsr ≠ 0) :
    (n.clockTimer region).lfsr ≠ 0 := by
  unfold Noise.clockTimer
  split
  · exact lfsrStep_ne_zero n.mode h
  · exact h

theorem Noise.write_lfsr (r : Nat) (v : Byte) (n : Noise) : (n.write r v).lfsr = n.lfsr := by
  unfold Noise.write
  split <;> rfl

/-! ### The DMC -/

/-- The DMC's part of `Apu.Inv` (10_state.md R94). -/
structure Dmc.Inv (d : Dmc) : Prop where
  bitsLeft : 1 ≤ d.bitsLeft.toNat ∧ d.bitsLeft.toNat ≤ 8
  curAddr : 0x8000 ≤ d.curAddr.toNat

theorem Dmc.Inv.clockTimer {d : Dmc} (h : d.Inv) (region : Region) : (d.clockTimer region).Inv := by
  have bits := h.bitsLeft
  have fewer : (d.bitsLeft - 1).toNat + 1 = d.bitsLeft.toNat := by bv_omega
  have eight : 1 ≤ (8#4).toNat ∧ (8#4).toNat ≤ 8 := by decide
  unfold Dmc.clockTimer
  dsimp only
  split
  · split
    · split
      · exact { h with bitsLeft := eight }
      · exact { h with bitsLeft := eight }
    next more =>
      have : (d.bitsLeft - 1).toNat ≠ 0 := fun e => more (BitVec.eq_of_toNat_eq e)
      exact { h with bitsLeft := ⟨by dsimp only; omega, by dsimp only; omega⟩ }
  · exact { h with }

/-- A sample starts at 0xC000 or above (62_apu.md R593). -/
theorem Dmc.Inv.restart {d : Dmc} (h : d.Inv) : d.restart.Inv := by
  have := d.sampleAddrReg.isLt
  refine { h with curAddr := ?_ }
  simp only [Dmc.restart, BitVec.toNat_ofNat]
  omega

theorem Dmc.Inv.take {d : Dmc} (h : d.Inv) (b : Byte) : (d.take b).Inv := by
  have next : 0x8000 ≤ (if d.curAddr = 0xFFFF#16 then 0x8000#16 else d.curAddr + 1).toNat := by
    have := h.curAddr
    split
    · decide
    · bv_omega
  unfold Dmc.take
  extract_lets d1
  have h1 : d1.Inv := { h with curAddr := next }
  unfold Dmc.sampleEnd
  split
  · split
    · exact h1.restart
    · split
      · exact { h1 with }
      · exact h1
  · exact h1

theorem Dmc.Inv.write {d : Dmc} (h : d.Inv) (r : Nat) (v : Byte) : (d.write r v).Inv := by
  unfold Dmc.write
  split <;> exact { h with }

theorem Dmc.Inv.enable {d : Dmc} (h : d.Inv) (on : Bool) : (d.enable on).Inv := by
  unfold Dmc.enable
  extract_lets d1
  have h1 : d1.Inv := by
    unfold d1
    split
    · split
      · exact h.restart
      · exact h
    · exact { h with }
  exact { h1 with }

/-! ### The sequencer and the tick -/

theorem Apu.Inv.dmc {cfg : Params} {a : Apu} (h : a.Inv cfg) : a.dmc.Inv := ⟨h.bitsLeft, h.curAddr⟩

theorem Apu.offsets_congr {a b : Apu} (mode : b.fcMode = a.fcMode) (cfg : Params) : b.offsets cfg = a.offsets cfg := by
  simp only [Apu.offsets, mode]

/-- `Apu.Inv` reads the sequencer, the shift register of the noise channel, and the DMC. -/
theorem Apu.Inv.of_parts {cfg : Params} {a b : Apu} (h : a.Inv cfg) (fc : b.fc = a.fc) (mode : b.fcMode = a.fcMode)
    (lfsr : b.noise.lfsr ≠ 0) (dmc : b.dmc.Inv) : b.Inv cfg :=
  ⟨by rw [fc, Apu.offsets_congr mode]; exact h.fc, lfsr, dmc.bitsLeft, dmc.curAddr⟩

/-- The clocks of an event move neither the sequencer, nor the noise channel's shift register, nor the DMC. -/
theorem Apu.clockEvent_keeps (a : Apu) (e : SeqEvent) :
    (a.clockEvent e).1.fc = a.fc ∧ (a.clockEvent e).1.fcMode = a.fcMode ∧
      (a.clockEvent e).1.noise.lfsr = a.noise.lfsr ∧ (a.clockEvent e).1.dmc = a.dmc := by
  cases e <;> exact ⟨rfl, rfl, rfl, rfl⟩

theorem Apu.Inv.clockEvent {cfg : Params} {a : Apu} (h : a.Inv cfg) (e : SeqEvent) : (a.clockEvent e).1.Inv cfg := by
  obtain ⟨fc, mode, lfsr, dmc⟩ := a.clockEvent_keeps e
  exact h.of_parts fc mode (lfsr ▸ h.lfsr) (dmc ▸ h.dmc)

/-- The last offset of a mode is positive (62_apu.md R552). -/
theorem Apu.offsets_pos {cfg : Params} (wf : cfg.wellFormed = true) (a : Apu) : 0 < (a.offsets cfg).o4 := by
  simp only [Params.wellFormed, FcOffsets.wellFormed, Bool.and_eq_true, decide_eq_true_eq] at wf
  unfold Apu.offsets
  split <;> omega

theorem Apu.Inv.frameStep {cfg : Params} (wf : cfg.wellFormed = true) {a : Apu} (h : a.Inv cfg) :
    (a.frameStep cfg).1.Inv cfg := by
  unfold Apu.frameStep
  extract_lets a1 o r
  obtain ⟨fc, mode, lfsr, dmc⟩ := a1.clockEvent_keeps (frameEvent o a1.fc)
  have lfsr' : r.1.noise.lfsr ≠ 0 := lfsr ▸ h.lfsr
  have dmc' : r.1.dmc.Inv := dmc ▸ h.dmc
  split
  next => exact ⟨Apu.offsets_pos wf _, lfsr', dmc'.bitsLeft, dmc'.curAddr⟩
  next notLast =>
    refine ⟨?_, lfsr', dmc'.bitsLeft, dmc'.curAddr⟩
    have below : a.fc < o.o4 := h.fc
    rw [Apu.offsets_congr (a := a1) mode, show r.1.fc = a.fc + 1 from fc]
    exact Nat.lt_of_le_of_ne below notLast

theorem Apu.Inv.sequencer {cfg : Params} (wf : cfg.wellFormed = true) {a : Apu} (h : a.Inv cfg) :
    (a.sequencer cfg).1.Inv cfg := by
  unfold Apu.sequencer
  split
  · exact Apu.Inv.frameStep wf { h with }
  next val _ =>
    have reset : Apu.Inv cfg { a with fcPending := none, fcMode := val.getLsbD 7, fc := 0 } :=
      { h with fc := Apu.offsets_pos wf { a with fcMode := val.getLsbD 7 } }
    exact reset.clockEvent _
  · exact h.frameStep wf

theorem Apu.Inv.tickHead {cfg : Params} (wf : cfg.wellFormed = true) {a : Apu} (h : a.Inv cfg) :
    (a.tickHead cfg).1.Inv cfg := by
  have flipped : Apu.Inv cfg { a with phase := !a.phase } := { h with }
  have stepped := flipped.sequencer wf
  exact stepped.of_parts rfl rfl (Noise.clockTimer_lfsr_ne_zero cfg.region stepped.lfsr)
    (stepped.dmc.clockTimer cfg.region)

/-! ### The registers -/

theorem Apu.Inv.write {cfg : Params} {a : Apu} (h : a.Inv cfg) (r : Nat) (v : Byte) : (a.write r v).Inv cfg := by
  unfold Apu.write
  split
  · exact { h with }
  · exact { h with }
  · exact { h with }
  · exact { h with lfsr := (a.noise.write_lfsr _ v).symm ▸ h.lfsr }
  · exact h.of_parts rfl rfl h.lfsr (h.dmc.write _ v)

theorem Apu.Inv.statusWrite {cfg : Params} {a : Apu} (h : a.Inv cfg) (v : Byte) : (a.statusWrite v).Inv cfg :=
  h.of_parts rfl rfl h.lfsr (h.dmc.enable _)

end Sys2Proof.Machine
end

section
/-!
SUPPORT. O32: the cartridge and the whole state. Every move of a step keeps the invariant but for the mark of an endless
stall, and a step with that mark answers no next state.
-/

namespace Sys2Proof.Machine

/-! ### The cartridge -/

theorem Cart.chrRamCell_lt (c : Cart) {a : Nat} (ha : a < 0x2000) : c.chrRamCell a < 8192 := by
  unfold Cart.chrRamCell
  split <;> omega

theorem Cart.Inv.ppuRegWrite {c : Cart} (h : c.Inv) (p : Ppu) (r : Nat) (v : Byte) : (c.ppuRegWrite p r v).Inv := by
  unfold Cart.ppuRegWrite Cart.ppuSpaceWrite Cart.ppuWrite
  split
  · split
    next pattern =>
      split
      · exact { h with chrRam := Memory.wf_write 8192 _ _ v (c.chrRamCell_lt pattern) h.chrRam }
      · exact h
    · exact h
  · exact h

/-- The serial port of MMC1 counts to 5 and starts again (63_mapper_and_ports.md R626). -/
theorem Mmc1.write_count_le {r : Mmc1} (h : r.count ≤ 4) (order : BitOrder) (addr : Addr) (v : Byte) :
    (r.write order addr v).count ≤ 4 := by
  unfold Mmc1.write
  split
  · exact Nat.zero_le 4
  · dsimp only
    split
    · split <;> exact Nat.zero_le 4
    · dsimp only
      omega

/-- A write leaves the scheme as it is, and only the shift-register scheme counts. -/
theorem Cart.Inv.mapperWrite {c : Cart} (h : c.Inv) (order : BitOrder) (addr : Addr) (v : Byte) :
    Cart.Inv { c with mapper := c.mapper.write order addr v } := by
  refine { h with count := fun r hr => ?_ }
  dsimp only at hr
  cases hm : c.mapper <;> rw [hm] at hr <;> cases hr
  exact Mmc1.write_count_le (h.count _ hm) order addr v

/-! ### The state -/

/-- The invariant but for the mark of an endless stall, which a step answers no next state with. -/
structure State.InRange (s : State) : Prop where
  cfg : s.cfg.wellFormed = true
  palPhase : s.palPhase ≤ 4
  ram : Memory.wf 2048 s.ram = true
  exram : Memory.wf 8160 s.exram = true
  sram : Memory.wf 8192 s.sram = true
  flat : Memory.wf 65536 s.flat = true
  ppu : s.ppu.Inv
  apu : s.apu.Inv s.cfg
  cart : s.cart.Inv

theorem State.inv_iff (s : State) : s.Inv ↔ s.InRange ∧ s.hung = false :=
  ⟨fun h => ⟨{ h with }, h.hung⟩, fun ⟨h, hung⟩ => { h with hung := hung }⟩

theorem State.InRange.of_sameDevices {s t : State} (h : s.InRange) (same : SameDevices s t) : t.InRange where
  cfg := same.cfg ▸ h.cfg
  palPhase := same.palPhase ▸ h.palPhase
  ram := same.ram ▸ h.ram
  exram := same.exram ▸ h.exram
  sram := same.sram ▸ h.sram
  flat := same.flat ▸ h.flat
  ppu := same.ppu ▸ h.ppu
  apu := same.cfg ▸ same.apu ▸ h.apu
  cart := same.cart ▸ h.cart

/-! ### Bus accesses -/

theorem State.InRange.consoleRead {s : State} (h : s.InRange) (addr : Addr) : (consoleRead addr s).2.InRange := by
  unfold Machine.consoleRead
  extract_lets a
  split
  · exact h
  split
  · exact { h with ppu := h.ppu.regRead s.cart _ }
  split
  · exact { h with }
  split
  · exact { h with apu := { h.apu with } }
  split
  · exact h.of_sameDevices (sameDevices_padRead false s)
  split
  · exact h.of_sameDevices (sameDevices_padRead true s)
  split
  · exact { h with }
  · exact h

theorem State.InRange.busRead {s : State} (h : s.InRange) (addr : Addr) : (busRead addr s).2.InRange := by
  unfold Machine.busRead
  split
  · exact h.consoleRead addr
  · exact h

theorem State.InRange.mapperCpuWrite {s : State} (h : s.InRange) (addr : Addr) (v : Byte) :
    (mapperCpuWrite addr v s).InRange := by
  unfold Machine.mapperCpuWrite
  extract_lets a
  split
  · exact { h with exram := Memory.wf_write 8160 _ _ v (by omega) h.exram }
  split
  · exact { h with sram := Memory.wf_write 8192 _ _ v (by omega) h.sram }
  · exact { h with cart := h.cart.mapperWrite _ addr v }

theorem State.InRange.consoleWrite {s : State} (h : s.InRange) (addr : Addr) (v : Byte) :
    (consoleWrite addr v s).InRange := by
  unfold Machine.consoleWrite
  extract_lets a
  split
  · exact { h with ram := Memory.wf_write 2048 _ _ v (Nat.mod_lt _ (by decide)) h.ram }
  split
  · exact { h with ppu := h.ppu.regWrite s.cart _ v, cart := h.cart.ppuRegWrite s.ppu _ v }
  split
  · exact { h with apu := h.apu.write _ v }
  split
  · exact { h with }
  split
  · exact { h with apu := h.apu.statusWrite v }
  split
  · exact h.of_sameDevices (sameDevices_padStrobe v s)
  split
  · exact { h with apu := { h.apu with } }
  split
  · exact h
  · exact h.mapperCpuWrite addr v

theorem State.InRange.busWrite {s : State} (h : s.InRange) (addr : Addr) (v : Byte) : (busWrite addr v s).InRange := by
  unfold Machine.busWrite
  split
  · exact h.consoleWrite addr v
  · exact { h with flat := Memory.wf_write 65536 _ _ v addr.isLt h.flat }

/-! ### The end of a cycle -/

theorem State.InRange.advancePhase {s : State} (h : s.InRange) : (advancePhase s).InRange := by
  unfold Machine.advancePhase
  split
  · exact h
  · exact { h with palPhase := Nat.le_of_lt_succ (Nat.mod_lt _ (by decide)) }

theorem State.InRange.ppuDots {s : State} (h : s.InRange) (n : Nat) : (ppuDots n s).InRange := by
  induction n generalizing s with
  | zero => exact h
  | succ n ih => exact ih (s := ppuDot s) { h with ppu := h.ppu.dotStep s.cfg s.cart }

theorem State.InRange.dmcReader {s : State} (h : s.InRange) : (dmcReader s).InRange := by
  unfold Machine.dmcReader
  split
  · extract_lets r
    have owed : State.InRange { s with stall := s.stall + s.cfg.dmcStallCycles } := { h with }
    have read : r.2.InRange := owed.busRead s.apu.dmc.curAddr
    exact { read with apu := read.apu.of_parts rfl rfl read.apu.lfsr (read.apu.dmc.take r.1) }
  · exact h

theorem State.InRange.apuTick {s : State} (h : s.InRange) : (apuTick s).InRange := by
  unfold Machine.apuTick
  extract_lets r s1
  have head : s1.InRange := State.InRange.dmcReader (s := { s with apu := r.1 }) { h with apu := h.apu.tickHead h.cfg }
  exact { head with apu := { head.apu with } }

theorem State.InRange.endCycle {s : State} (h : s.InRange) : (endCycle s).InRange := by
  have clocked : (clockDevices s).InRange := by
    unfold clockDevices
    split
    · exact (h.advancePhase.ppuDots _).apuTick
    · exact h.advancePhase
  exact { clocked with }

/-! ### The step -/

theorem State.InRange.move {s t : State} (h : s.InRange) (m : Move s t) : t.InRange := by
  cases m with
  | cpu same => exact h.of_sameDevices same
  | cycle => exact h.endCycle
  | read addr => exact h.busRead addr
  | write addr v => exact h.busWrite addr v

theorem State.InRange.moves {s t : State} (h : s.InRange) (m : Moves s t) : t.InRange :=
  m.lift (R := fun s t => s.InRange → t.InRange) (fun _ => id) (fun f g => g ∘ f) (fun m h => h.move m) h

/-- Settles O32: every move of a step keeps memories canonical and counters in range (`State.InRange.move`), and a step
whose stall never ends answers no next state. -/
theorem stepKeepsInvariant : Obligations.StepKeepsInvariant := by
  unfold Obligations.StepKeepsInvariant
  intro s t inv next
  obtain ⟨running, live, -⟩ := step_next next
  obtain ⟨u, before, after⟩ := stepState_moves running
  have left : stepState s = t := by simp only [stepState, next]
  have start : State.InRange { s with delta := 0 } := { inv with }
  exact t.inv_iff.mpr ⟨left ▸ (start.moves before).endCycle.moves after, live⟩

end Sys2Proof.Machine
end

section
/-!
SUPPORT. The console bus range by range, one equation for each: which device or cell answers a read, and what a write
reaches (20_memory.md R140 to R143).
-/

namespace Sys2Proof.Machine

variable {s : State} {addr : Addr}

/-! ### Reads -/

theorem busRead_ram (console : s.cfg.busMode = .console) (high : addr.toNat < 0x2000) :
    busRead addr s = (cellByte s .ram (addr.toNat % 0x800), s) :=
  busRead_stored (by simp only [storedByte, console, high, if_true, cellByte])

theorem busRead_cartridge (console : s.cfg.busMode = .console) (low : 0x4020 ≤ addr.toNat) :
    busRead addr s = (mapperCpuRead addr s, s) :=
  busRead_stored (by
    simp only [storedByte, console, if_neg (show ¬addr.toNat < 0x2000 by omega),
      if_neg (show ¬addr.toNat < 0x4020 by omega)])

theorem busRead_ppu (console : s.cfg.busMode = .console) (low : 0x2000 ≤ addr.toNat) (high : addr.toNat < 0x4000) :
    busRead addr s = ppuRegRead (addr.toNat % 8) s := by
  simp (disch := omega) only [busRead, console, consoleRead, if_neg, if_pos]

theorem busRead_undriven (console : s.cfg.busMode = .console)
    (undriven : (0x4000 ≤ addr.toNat ∧ addr.toNat < 0x4015) ∨ (0x4018 ≤ addr.toNat ∧ addr.toNat < 0x4020)) :
    busRead addr s = drawOpenBus s := by
  rcases undriven with ⟨low, high⟩ | ⟨low, high⟩ <;>
    simp (disch := omega) only [busRead, console, consoleRead, if_neg, if_pos]

theorem busRead_status (console : s.cfg.busMode = .console) (at_ : addr.toNat = 0x4015) :
    busRead addr s = apuStatusRead s := by
  simp (disch := omega) only [busRead, console, consoleRead, if_neg, if_pos]

theorem busRead_port (console : s.cfg.busMode = .console) (port : addr.toNat = 0x4016 ∨ addr.toNat = 0x4017) :
    busRead addr s = padRead (decide (addr.toNat = 0x4017)) s := by
  rcases port with at_ | at_ <;> simp [busRead, console, consoleRead, at_]

/-! ### Writes -/

theorem busWrite_apu (v : Byte) (console : s.cfg.busMode = .console) (low : 0x4000 ≤ addr.toNat)
    (high : addr.toNat < 0x4014) : busWrite addr v s = { s with apu := s.apu.write (addr.toNat - 0x4000) v } := by
  simp (disch := omega) only [busWrite, console, consoleWrite, if_neg, if_pos]

theorem busWrite_undecoded (v : Byte) (console : s.cfg.busMode = .console) (low : 0x4018 ≤ addr.toNat)
    (high : addr.toNat < 0x4020) : busWrite addr v s = s := by
  simp (disch := omega) only [busWrite, console, consoleWrite, if_neg, if_pos]

theorem busWrite_bankRegister (v : Byte) (console : s.cfg.busMode = .console) (low : 0x8000 ≤ addr.toNat) :
    busWrite addr v s = { s with cart := { s.cart with mapper := s.cart.mapper.write s.cfg.mmc1BitOrder addr v } } := by
  simp (disch := omega) only [busWrite, console, consoleWrite, mapperCpuWrite, if_neg]

/-- A bus write changes no parameter. -/
theorem busWrite_cfg (addr : Addr) (v : Byte) (s : State) : (busWrite addr v s).cfg = s.cfg :=
  (busWrite_run addr v s).2.1.cfg

end Sys2Proof.Machine
end

section
/-!
SUPPORT. O43, O44 and O45: storage seen from the CPU. Every stored byte is the byte of the cell that a write at its
address reaches, or a byte of PRG ROM, which no write below the bank registers moves.
-/

namespace Sys2Proof.Machine

/-! ### What stands behind a stored byte -/

/-- Where storage answers, a write reaches the cell that is read, or nothing does and PRG ROM answers. Which of them it
is depends on the bus mode alone. -/
theorem storedByte_cases {s : State} {addr : Addr} {w : Byte} (stored : storedByte s addr = some w) :
    (∃ k i, storeTarget s addr = some (k, i) ∧
        ∀ t : State, t.cfg = s.cfg → storedByte t addr = some (cellByte t k i)) ∨
      (storeTarget s addr = none ∧
        ∀ t : State, t.cfg = s.cfg → storedByte t addr = some (t.cart.prgByte addr.toNat)) := by
  cases mode : s.cfg.busMode with
  | flat64k =>
    refine .inl ⟨.flat, addr.toNat, ?_, fun t same => ?_⟩
    · simp only [storeTarget, mode]
    · simp only [storedByte, same, mode, cellByte]
  | console =>
    by_cases ram : addr.toNat < 0x2000
    · refine .inl ⟨.ram, addr.toNat % 0x800, ?_, fun t same => ?_⟩
      · simp only [storeTarget, mode, if_pos ram]
      · simp only [storedByte, same, mode, if_pos ram, cellByte]
    have cartridge : 0x4020 ≤ addr.toNat := by
      by_contra device
      simp [storedByte, mode, ram, Nat.lt_of_not_le device] at stored
    by_cases exram : addr.toNat < 0x6000
    · refine .inl ⟨.exram, addr.toNat - 0x4020, ?_, fun t same => ?_⟩
      · simp (disch := omega) only [storeTarget, mode, if_neg, if_pos]
      · simp (disch := omega) only [storedByte, same, mode, mapperCpuRead, if_neg, if_pos, cellByte]
    by_cases sram : addr.toNat < 0x8000
    · refine .inl ⟨.sram, addr.toNat - 0x6000, ?_, fun t same => ?_⟩
      · simp (disch := omega) only [storeTarget, mode, if_neg, if_pos]
      · simp (disch := omega) only [storedByte, same, mode, mapperCpuRead, if_neg, if_pos, cellByte]
    · refine .inr ⟨?_, fun t same => ?_⟩
      · simp (disch := omega) only [storeTarget, mode, if_neg]
      · simp (disch := omega) only [storedByte, same, mode, mapperCpuRead, if_neg]

/-! ### PRG ROM -/

theorem Cart.ppuRegWrite_mapper (c : Cart) (p : Ppu) (r : Nat) (v : Byte) :
    (c.ppuRegWrite p r v).mapper = c.mapper := by
  simp only [Cart.ppuRegWrite, Cart.ppuSpaceWrite, Cart.ppuWrite]
  (repeat' split) <;> rfl

/-- A write below the bank registers, or in flat mode, selects no bank. -/
theorem busWrite_mapper {s : State} {addr : Addr} (v : Byte)
    (below : addr.toNat < 0x8000 ∨ s.cfg.busMode = .flat64k) :
    (busWrite addr v s).cart.mapper = s.cart.mapper := by
  unfold busWrite
  split
  next console =>
    have low : addr.toNat < 0x8000 := by simpa [console] using below
    rcases consoleWrite_cases addr v s with ⟨-, e⟩ | ⟨-, -, e⟩ | ⟨-, -, -, -, _, e⟩ | ⟨-, e⟩ | ⟨-, e⟩ | ⟨-, -, e⟩ |
      ⟨-, -, e⟩ | ⟨-, -, e⟩ | ⟨high, -⟩
    · rw [e]
    · rw [e]; exact s.cart.ppuRegWrite_mapper s.ppu _ v
    · rw [e]
    · rw [e]
    · rw [e, (sameDevices_padStrobe v s).cart]
    · rw [e]
    · rw [e]
    · rw [e]
    · omega
  next => rfl

theorem Cart.SameRom.prgByte {c d : Cart} (rom : c.SameRom d) (mapper : d.mapper = c.mapper) (a : Nat) :
    d.prgByte a = c.prgByte a := by
  simp only [Cart.prgByte, Cart.prgCell, Cart.prgPage, rom.prg, rom.nPrg, mapper]

/-! ### The obligations -/

/-- Settles O43: a RAM address reads the cell a write at it reaches, and a write changes that cell alone
(`stored_busWrite`). -/
theorem ramMirror : Obligations.RamMirror := by
  unfold Obligations.RamMirror
  intro s addr v console low
  have target : storeTarget s addr = some (.ram, addr.toNat % 0x800) := by
    simp only [storeTarget, console, if_pos low]
  have written (k : MemKind) (a : Nat) : cellByte (busWrite addr v s) k a =
      if k = .ram ∧ a = addr.toNat % 0x800 then v else cellByte s k a := by
    rw [stored_busWrite addr v s k a, target]
    simp only [Option.some.injEq, Prod.mk.injEq, eq_comm]
  refine ⟨busRead_ram console low, written, fun other low' mirror => ?_⟩
  have console' : (busWrite addr v s).cfg.busMode = .console := by rw [busWrite_cfg, console]
  rw [busRead_ram console' low', written, mirror, if_pos ⟨rfl, rfl⟩]

/-- Settles O44: a stored byte is the byte of the cell a write reaches, which changes as `stored_busWrite` says, or a
byte of PRG ROM, and then neither the ROM nor its banks change. -/
theorem storageReadAfterWrite : Obligations.StorageReadAfterWrite := by
  unfold Obligations.StorageReadAfterWrite
  intro s a b v w below stored
  have read := busRead_stored stored
  refine ⟨?_, congrArg Prod.fst read, congrArg Prod.snd read⟩
  have cfg := busWrite_cfg a v s
  rcases storedByte_cases stored with ⟨k, i, target, byte⟩ | ⟨target, byte⟩
  · have old : cellByte s k i = w := Option.some.inj ((byte s rfl).symm.trans stored)
    have hit : (storeTarget s a ≠ none ∧ storeTarget s b = storeTarget s a) ↔ storeTarget s a = some (k, i) := by
      rw [target, eq_comm (a := some (k, i))]
      exact ⟨And.right, fun same => ⟨by simp [same], same⟩⟩
    rw [byte _ cfg, stored_busWrite a v s k i, old]
    simp only [hit]
  · have old : s.cart.prgByte b.toNat = w := Option.some.inj ((byte s rfl).symm.trans stored)
    have missed : ¬(storeTarget s a ≠ none ∧ storeTarget s b = storeTarget s a) := by
      rintro ⟨reaches, same⟩
      exact reaches (same.symm.trans target)
    rw [byte _ cfg, (sameRom_busWrite a v s).prgByte (busWrite_mapper v below), old, if_neg missed]

/-- Settles O45: the decoder drops the write, the channel ignores its second register, or the fixed scheme has no bank
register. -/
theorem writesIgnored : Obligations.WritesIgnored := by
  unfold Obligations.WritesIgnored
  rintro s a v console (⟨low, high⟩ | at_ | at_ | ⟨low, fixed⟩)
  · exact busWrite_undecoded v console low high
  · rw [busWrite_apu v console (by omega) (by omega), at_]
    rfl
  · rw [busWrite_apu v console (by omega) (by omega), at_]
    rfl
  · rw [busWrite_bankRegister v console low, fixed, Mapper.write, ← fixed]

end Sys2Proof.Machine
end

section
/-!
SUPPORT. O47: the palette's part of the PPU address space.
-/

namespace Sys2Proof.Machine

theorem Ppu.read_palette (c : Cart) (p : Ppu) {a : Nat} (low : 0x3F00 ≤ a) :
    p.read c a = Memory.byte .palette p.palette (palIndex a) := by
  simp (disch := omega) only [Ppu.read, if_neg]

theorem Ppu.write_palette (c : Cart) (p : Ppu) {a : Nat} (v : Byte) (low : 0x3F00 ≤ a) :
    p.write c a v = { p with palette := p.palette.write (palIndex a) v } := by
  simp (disch := omega) only [Ppu.write, if_neg]

theorem palIndex_eq (a : Nat) :
    palIndex a = if a % 32 ∈ [0x10, 0x14, 0x18, 0x1C] then a % 32 - 0x10 else a % 32 := by
  simp only [palIndex, List.mem_cons, List.not_mem_nil, or_false]

/-- Settles O47: both accesses go through the entry `palIndex` gives, so a read sees a write where the entries are
equal (`Memory.byte_write`). -/
theorem paletteAlias : Obligations.PaletteAlias := by
  unfold Obligations.PaletteAlias
  intro c p a b v lowA _ lowB _
  refine ⟨palIndex_eq a, p.read_palette c lowA, ?_⟩
  rw [p.write_palette c v lowA, Ppu.read_palette c _ lowB, Memory.byte_write, ← p.read_palette c lowB]
  simp only [eq_comm]

end Sys2Proof.Machine
end

section
/-!
SUPPORT. O46: what a read of each device returns and changes: the PPU's registers, the APU's status and the ports.
-/

namespace Sys2Proof.Machine

/-! ### Bits in numbers -/

theorem toNat_append_eq {m n : Nat} (x : BitVec m) (y : BitVec n) : (x ++ y).toNat = x.toNat * 2 ^ n + y.toNat := by
  rw [BitVec.toNat_append, ← Nat.shiftLeft_add_eq_or_of_lt y.isLt, Nat.shiftLeft_eq]

/-- The byte of PPUSTATUS: three flags over the low five bits of the latch (61_ppu.md R462). -/
theorem Ppu.statusByte_toNat (p : Ppu) : p.statusByte.toNat =
    128 * p.vblank.toNat + 64 * p.sprite0Hit.toNat + 32 * p.spriteOverflow.toNat + p.latch.toNat % 32 := by
  simp only [Ppu.statusByte, toNat_append_eq, BitVec.toNat_ofBool, BitVec.extractLsb'_toNat, Nat.shiftRight_zero]
  omega

/-- The eight bits of the APU's status, from bit 7 down; bit 5 is the open bus's (62_apu.md R562). -/
theorem Apu.statusByte_toNat (ob : Byte) (a : Apu) : (a.statusByte ob).toNat =
    128 * a.dmc.dmcIrq.toNat + 64 * a.frameIrq.toNat + 32 * (ob.getLsbD 5).toNat + 16 * (a.dmc.bytesLeft != 0).toNat
      + 8 * (a.noise.lc.len != 0).toNat + 4 * (a.triangle.lc.len != 0).toNat + 2 * (a.pulse2.lc.len != 0).toNat
      + (a.pulse1.lc.len != 0).toNat := by
  simp only [Apu.statusByte, toNat_append_eq, BitVec.toNat_ofBool]
  omega

theorem bne_toNat_eq_zero_iff {n : Nat} (x : BitVec n) : (x != 0).toNat = 0 ↔ x = 0 := by
  simp [Bool.toNat_eq_zero]

/-- The two interrupts and the five counters in play, bit by bit (62_apu.md R562). -/
theorem Apu.statusByte_bits (ob : Byte) (a : Apu) :
    (a.statusByte ob).toNat / 128 = a.dmc.dmcIrq.toNat ∧ (a.statusByte ob).toNat / 64 % 2 = a.frameIrq.toNat ∧
      ((a.statusByte ob).toNat / 16 % 2 = 0 ↔ a.dmc.bytesLeft = 0) ∧
      ((a.statusByte ob).toNat / 8 % 2 = 0 ↔ a.noise.lc.len = 0) ∧
      ((a.statusByte ob).toNat / 4 % 2 = 0 ↔ a.triangle.lc.len = 0) ∧
      ((a.statusByte ob).toNat / 2 % 2 = 0 ↔ a.pulse2.lc.len = 0) ∧
      ((a.statusByte ob).toNat % 2 = 0 ↔ a.pulse1.lc.len = 0) := by
  have frame := a.frameIrq.toNat_le
  have unused := (ob.getLsbD 5).toNat_le
  have dmc := (a.dmc.bytesLeft != 0).toNat_le
  have noise := (a.noise.lc.len != 0).toNat_le
  have triangle := (a.triangle.lc.len != 0).toNat_le
  have pulse2 := (a.pulse2.lc.len != 0).toNat_le
  have pulse1 := (a.pulse1.lc.len != 0).toNat_le
  simp only [← bne_toNat_eq_zero_iff, a.statusByte_toNat ob]
  omega

/-- Bits 4 to 1 of a port's byte are zero (63_mapper_and_ports.md R642). -/
theorem portByte_middle (ob v : Byte) : ((ob &&& 0xE0) ||| (v &&& 1)).toNat / 2 % 16 = 0 := by
  have bits : ((ob &&& 0xE0) ||| (v &&& 1)).extractLsb' 1 4 = 0#4 := by
    ext i hi
    interval_cases i <;> simp
  simpa [BitVec.extractLsb'_toNat, Nat.shiftRight_eq_div_pow] using congrArg BitVec.toNat bits

/-- A PPUDATA access moves `v` by 32 or 1, modulo its fifteen bits (61_ppu.md R466). -/
theorem Ppu.increment_toNat (p : Ppu) :
    (p.v + p.increment).toNat = (p.v.toNat + (if p.ctrl.toNat / 4 % 2 = 1 then 32 else 1)) % 32768 := by
  have bit : p.ctrl.getLsbD 2 = decide (p.ctrl.toNat / 4 % 2 = 1) := Nat.testBit_eq_decide_div_mod_eq
  simp only [BitVec.toNat_add, Ppu.increment, bit, decide_eq_true_eq]
  split <;> rfl

/-! ### The registers of the PPU -/

/-- A register read leaves the byte it returns in the latch (61_ppu.md R467). -/
theorem Ppu.regRead_latch (c : Cart) (p : Ppu) (r : Nat) : (p.regRead c r).2.latch = (p.regRead c r).1 := by
  unfold Ppu.regRead
  split
  · rfl
  · rfl
  · dsimp only
    split <;> rfl
  · rfl

/-- A write-only register answers the latch and changes nothing. -/
theorem Ppu.regRead_writeOnly (c : Cart) (p : Ppu) {r : Nat} (h : r ∉ [2, 4, 7]) : p.regRead c r = (p.latch, p) := by
  unfold Ppu.regRead
  split
  · simp at h
  · simp at h
  · simp at h
  · rfl

theorem Ppu.regRead_latchOnly (c : Cart) (p : Ppu) {r : Nat} (h : r ∉ [2, 7]) :
    (p.regRead c r).2 = { p with latch := (p.regRead c r).1 } := by
  by_cases oamData : r = 4
  · subst oamData
    rfl
  · rw [p.regRead_writeOnly c (by simpa [oamData] using h)]

/-- A PPUDATA read below the palette answers the buffer and refills it. -/
theorem Ppu.regRead_data (c : Cart) (p : Ppu) (below : p.v.toNat % 0x4000 < 0x3F00) :
    (p.regRead c 7).1 = p.buffer ∧ (p.regRead c 7).2.buffer = p.read c (p.v.toNat % 0x4000) := by
  simp only [Ppu.regRead, if_pos below, and_self]

/-- A PPUDATA read of the palette answers at once, and the buffer takes the nametable byte under it. -/
theorem Ppu.regRead_paletteData (c : Cart) (p : Ppu) (palette : 0x3F00 ≤ p.v.toNat % 0x4000) :
    (p.regRead c 7).1 = p.read c (p.v.toNat % 0x4000) ∧
      (p.regRead c 7).2.buffer = p.read c (p.v.toNat % 0x4000 - 0x1000) := by
  simp only [Ppu.regRead, if_neg (Nat.not_lt.mpr palette), and_self]

/-- What a PPUDATA read changes besides: the latch and `v` (61_ppu.md R466, R467). -/
theorem Ppu.regRead_data_frame (c : Cart) (p : Ppu) :
    (p.regRead c 7).2 =
        { p with
          latch := (p.regRead c 7).1
          v := (p.regRead c 7).2.v
          buffer := (p.regRead c 7).2.buffer } ∧
      (p.regRead c 7).2.v = p.v + p.increment := by
  by_cases below : p.v.toNat % 0x4000 < 0x3F00
  · simp only [Ppu.regRead, if_pos below, and_self]
  · simp only [Ppu.regRead, if_neg below, and_self]

/-! ### The ports -/

theorem padRead_frame (second : Bool) (s : State) :
    (padRead second s).2 = { s with draws := (padRead second s).2.draws, pads := (padRead second s).2.pads } := by
  simp only [padRead, latchButtons]
  (repeat' split) <;> rfl

theorem padRead_middle (second : Bool) (s : State) : (padRead second s).1.toNat / 2 % 16 = 0 := by
  unfold padRead
  split
  · exact portByte_middle _ _
  · exact portByte_middle _ _

/-! ### The obligation -/

/-- Settles O46: the bus read of each range is its device's read, whose lemmas above say what it returns and changes. -/
theorem busReadEffects : Obligations.BusReadEffects := by
  unfold Obligations.BusReadEffects
  intro s a console b t
  refine ⟨?storage, ?ppu, ?undriven, ?status, ?port⟩
  case storage =>
    rintro (ram | cartridge)
    · exact congrArg Prod.snd (busRead_ram console ram)
    · exact congrArg Prod.snd (busRead_cartridge console cartridge)
  case ppu =>
    intro low high
    have read : (b, t) = ppuRegRead (a.toNat % 8) s := busRead_ppu console low high
    obtain ⟨hb, ht⟩ := Prod.mk.inj read
    generalize a.toNat % 8 = r at hb ht ⊢
    clear_value b t
    subst hb ht
    refine ⟨rfl, s.ppu.regRead_latch s.cart r, s.ppu.regRead_latchOnly s.cart, fun other => ?_, ?_, ?_, ?_⟩
    · exact congrArg Prod.fst (s.ppu.regRead_writeOnly s.cart other)
    · rintro rfl
      exact ⟨rfl, s.ppu.statusByte_toNat⟩
    · rintro rfl
      rfl
    · rintro rfl
      obtain ⟨frame, moved⟩ := s.ppu.regRead_data_frame s.cart
      exact ⟨frame, (congrArg BitVec.toNat moved).trans s.ppu.increment_toNat, s.ppu.regRead_data s.cart,
        s.ppu.regRead_paletteData s.cart⟩
  case undriven =>
    intro undriven
    have after : t = (drawOpenBus s).2 := congrArg Prod.snd (busRead_undriven console undriven)
    rw [after]
    rfl
  case status =>
    intro at_
    have read : busRead a s = apuStatusRead s := busRead_status console at_
    have byte : b = s.apu.statusByte (drawOpenBus s).1 := congrArg Prod.fst read
    have after : t = (apuStatusRead s).2 := congrArg Prod.snd read
    rw [byte, after]
    exact ⟨rfl, s.apu.statusByte_bits _⟩
  case port =>
    intro port
    have read : busRead a s = padRead (decide (a.toNat = 0x4017)) s := busRead_port console port
    have kept := cycled_busRead a s
    refine ⟨?_, kept.strobe, kept.host, ?_⟩
    · have after : t = _ := congrArg Prod.snd read
      rw [after]
      exact padRead_frame _ s
    · exact (congrArg (fun q => q.1.toNat / 2 % 16) read).trans (padRead_middle _ s)

end Sys2Proof.Machine
end

section
/-!
SUPPORT. O1, O2 and O3: the encoding. Each instruction lies in the cell that its opcode selects, and every cell's
instructions are encoded as the opcode and their operand bytes, which is what the decoder reads (30_encoding.md R200,
R202 to R204).
-/

namespace Sys2Proof

open Machine

/-! ### The halves of a word -/

theorem addrOf_loByte_hiByte (w : Addr) : addrOf (loByte w) (hiByte w) = w :=
  (BitVec.extractLsb'_append_extractLsb'_eq_extractLsb' rfl).trans BitVec.extractLsb'_eq_self

@[simp]
theorem loByte_addrOf (lo hi : Byte) : loByte (addrOf lo hi) = lo :=
  BitVec.extractLsb'_append_eq_right

@[simp]
theorem hiByte_addrOf (lo hi : Byte) : hiByte (addrOf lo hi) = hi :=
  BitVec.extractLsb'_append_eq_left

theorem loByte_eq_ofNat (w : Addr) : loByte w = BitVec.ofNat 8 w.toNat := rfl

theorem hiByte_eq_ofNat (w : Addr) : hiByte w = BitVec.ofNat 8 (w.toNat / 256) :=
  congrArg (BitVec.ofNat 8) (Nat.shiftRight_eq_div_pow w.toNat 8)

/-! ### The cells of the opcode map -/

/-- The cell holds `i`, and all its instructions are encoded as `op` and the operand bytes of its format. -/
inductive OpcodeCell.Encodes (op : Byte) : OpcodeCell → Instr → Prop
  | f1 {i : Instr} : encode i = [op] → Encodes op (.f1 i) i
  | f2 {f : Byte → Instr} {b : Byte} : (∀ b, encode (f b) = [op, b]) → Encodes op (.f2 f) (f b)
  | f3 {f : Addr → Instr} {w : Addr} : (∀ w, encode (f w) = [op, loByte w, hiByte w]) → Encodes op (.f3 f) (f w)

/-- The map against the syntax, one case per constructor: the format the cell has is the one that applies. -/
theorem opcodeCell_encodes (i : Instr) : (opcodeCell i.opcode).Encodes i.opcode i := by
  cases i
  all_goals
    dsimp only [Instr.opcode]
    constructor
    intros
    rfl

/-- The first operand bytes of two, as many as the cell's mode has. -/
def OpcodeCell.operands (c : OpcodeCell) (b1 b2 : Byte) : List Byte := [b1, b2].take c.operandBytes

theorem OpcodeCell.Encodes.exists_instr {op : Byte} {c : OpcodeCell} {i : Instr} (h : c.Encodes op i) :
    ∃ b1 b2, c.instr b1 b2 = i := by
  cases h with
  | f1 _ => exact ⟨0, 0, rfl⟩
  | @f2 _ b _ => exact ⟨b, 0, rfl⟩
  | @f3 f w _ => exact ⟨loByte w, hiByte w, congrArg f (addrOf_loByte_hiByte w)⟩

theorem OpcodeCell.Encodes.encode_instr {op : Byte} {c : OpcodeCell} {i : Instr} (h : c.Encodes op i) (b1 b2 : Byte) :
    encode (c.instr b1 b2) = op :: c.operands b1 b2 := by
  cases h with
  | f1 all => exact all
  | f2 all => exact all b1
  | f3 all =>
    have encoded := all (addrOf b1 b2)
    rwa [loByte_addrOf, hiByte_addrOf] at encoded

/-- No byte is left out of the map (30_encoding.md R209). -/
theorem exists_instr_of_opcode (op : Byte) : ∃ i : Instr, i.opcode = op := by
  have selected : ∀ op, ((opcodeCell op).instr 0 0).opcode = op := by decide +kernel
  exact ⟨_, selected op⟩

theorem encode_opcodeCell_instr (op b1 b2 : Byte) :
    encode ((opcodeCell op).instr b1 b2) = op :: (opcodeCell op).operands b1 b2 := by
  obtain ⟨i, rfl⟩ := exists_instr_of_opcode op
  exact (opcodeCell_encodes i).encode_instr b1 b2

theorem opcode_opcodeCell_instr (op b1 b2 : Byte) : ((opcodeCell op).instr b1 b2).opcode = op :=
  (List.cons.inj (encode_opcodeCell_instr op b1 b2)).1

/-! ### The decoder -/

theorem decode_operands (op b1 b2 : Byte) (rest : List Byte) :
    decode (op :: ((opcodeCell op).operands b1 b2 ++ rest)) = .ok ((opcodeCell op).instr b1 b2, rest) := by
  simp only [decode]
  cases opcodeCell op <;> rfl

theorem decode_missingOperand {op : Byte} {bs : List Byte} (short : bs.length < (opcodeCell op).operandBytes) :
    decode (op :: bs) = .error (.missingOperand op) := by
  simp only [decode]
  generalize opcodeCell op = c at short ⊢
  match c, bs with
  | .f1 _, _ => exact absurd short (Nat.not_lt_zero _)
  | .f2 _, [] | .f3 _, [] | .f3 _, [_] => rfl

theorem OpcodeCell.exists_operands {c : OpcodeCell} {bs : List Byte} (long : c.operandBytes ≤ bs.length) :
    ∃ b1 b2, bs = c.operands b1 b2 ++ bs.drop c.operandBytes := by
  match c, bs with
  | .f1 _, _ => exact ⟨0, 0, rfl⟩
  | .f2 _, b :: _ => exact ⟨b, 0, rfl⟩
  | .f3 _, lo :: hi :: _ => exact ⟨lo, hi, rfl⟩

/-- A long enough string is operand bytes and a rest, and the decoder reads them. -/
theorem decode_cons_of_le {op : Byte} {bs : List Byte} (long : (opcodeCell op).operandBytes ≤ bs.length) :
    ∃ b1 b2, bs = (opcodeCell op).operands b1 b2 ++ bs.drop (opcodeCell op).operandBytes ∧
      decode (op :: bs) = .ok ((opcodeCell op).instr b1 b2, bs.drop (opcodeCell op).operandBytes) := by
  obtain ⟨b1, b2, split⟩ := OpcodeCell.exists_operands long
  exact ⟨b1, b2, split, (congrArg (fun bytes => decode (op :: bytes)) split).trans (decode_operands op b1 b2 _)⟩

/-! ### The round trips -/

/-- Settles O1: the cell of the instruction's opcode holds it with its own operand bytes. -/
theorem encodeThenDecode : Obligations.EncodeThenDecode := by
  unfold Obligations.EncodeThenDecode
  intro i rest _
  obtain ⟨b1, b2, held⟩ := (opcodeCell_encodes i).exists_instr
  have encoded := encode_opcodeCell_instr i.opcode b1 b2
  have decoded := decode_operands i.opcode b1 b2 rest
  rw [held] at encoded decoded
  rw [encoded]
  exact decoded

/-- Settles O2: the string holds the operand bytes of its opcode's cell, and their instruction is encoded as them. -/
theorem decodeThenEncode : Obligations.DecodeThenEncode := by
  unfold Obligations.DecodeThenEncode
  intro i bs rest accepted
  refine ⟨rfl, ?_⟩
  match bs with
  | [] => cases accepted
  | op :: bytes =>
    obtain short | long := Nat.lt_or_ge bytes.length (opcodeCell op).operandBytes
    · cases (decode_missingOperand short).symm.trans accepted
    · obtain ⟨b1, b2, split, decoded⟩ := decode_cons_of_le long
      obtain ⟨rfl, rfl⟩ := Prod.mk.inj (Except.ok.inj (decoded.symm.trans accepted))
      rw [encode_opcodeCell_instr, List.cons_append, ← split]

/-! ### The tables -/

theorem operandBytes_eq_mode (i : Instr) : i.operandBytes = operandBytesOf (instrOperand i) := by
  cases i
  all_goals simp only [Instr.operandBytes, instrOperand, operandBytesOf, loByte_eq_ofNat, hiByte_eq_ofNat]

/-- The instruction of each opcode value, in the order of the map (30_encoding.md R204). -/
def opcodeMap : List Instr := (List.range 256).map fun n => (opcodeCell (BitVec.ofNat 8 n)).instr 0 0

/-- The four kinds of opcode (30_encoding.md R209, R212). -/
theorem opcodeMap_kinds :
    (opcodeMap.filter fun i => i.official).length = 151 ∧
      (opcodeMap.filter fun i => !i.official && i.mnemonic != .JAM && !i.optional && !i.unstable).length = 80 ∧
      (opcodeMap.filter fun i => i.mnemonic == .JAM).length = 12 ∧
      (opcodeMap.filter fun i => i.optional || i.unstable).length = 13 := by
  decide +kernel

/-- Settles O3: the decoder's two cases by the length of the string, the table's counts, and the words by evaluation. -/
theorem decoderTotal : Obligations.DecoderTotal := by
  unfold Obligations.DecoderTotal
  refine ⟨rfl, fun op bs => ?strings, opcodeMap_kinds, fun i => ?bytes, ?words⟩
  case strings =>
    split
    next short => exact decode_missingOperand short
    next long =>
      obtain ⟨b1, b2, _, decoded⟩ := decode_cons_of_le (Nat.not_lt.mp long)
      exact ⟨_, decoded, opcode_opcodeCell_instr op b1 b2⟩
  case bytes => exact ⟨operandBytes_eq_mode i, congrArg (i.opcode :: ·) (operandBytes_eq_mode i)⟩
  case words => exact ⟨rfl, rfl, rfl, rfl, rfl, rfl, rfl, rfl, rfl, rfl⟩

end Sys2Proof
end

section
/-!
SUPPORT. O7: the effective address in numbers. Zero-page bytes are stored bytes, so a pointer's word is theirs, and the
address cycles move none of them (40_addressing_modes.md R244 to R252).
-/

namespace Sys2Proof.Machine

/-! ### Words in numbers -/

theorem zext16_toNat (v : Byte) : (zext16 v).toNat = v.toNat := BitVec.toNat_setWidth_of_le (by decide)

theorem addrOf_toNat (lo hi : Byte) : (addrOf lo hi).toNat = lo.toNat + 256 * hi.toNat := by
  rw [addrOf, toNat_append_eq]
  omega

theorem zext16_add_toNat (b x : Byte) : (zext16 (b + x)).toNat = (b.toNat + x.toNat) % 256 :=
  (zext16_toNat (b + x)).trans (BitVec.toNat_add b x)

/-! ### The zero page -/

theorem storedByte_zext16 (s : State) (b : Byte) : storedByte s (zext16 b) = some (zeroPageByte s b.toNat) := by
  have := b.isLt
  simp only [storedByte, zext16_toNat, zeroPageByte]
  cases s.cfg.busMode with
  | console => rw [if_pos (by omega), Nat.mod_eq_of_lt (by omega)]; rfl
  | flat64k => rfl

theorem Cycled.zeroPageByte {s t : State} (h : Cycled s t) (a : Nat) : zeroPageByte t a = zeroPageByte s a := by
  simp only [Machine.zeroPageByte, h.cfg, h.bytes _ a]

theorem Cycled.zeroPageWord {s t : State} (h : Cycled s t) (p : Nat) : zeroPageWord t p = zeroPageWord s p := by
  simp only [Machine.zeroPageWord, h.zeroPageByte]

theorem zpPointer_toNat (p : Byte) (s : State) : (zpPointer p s).1.toNat = zeroPageWord s p.toNat := by
  have low : (memRead (zext16 p) s).1 = zeroPageByte s p.toNat := memRead_stored (storedByte_zext16 s p)
  have high : (memRead (zext16 (p + 1)) (memRead (zext16 p) s).2).1 = zeroPageByte s (p + 1).toNat :=
    memRead_stored (((cycled_memRead (zext16 p) s).storedByte _).trans (storedByte_zext16 s (p + 1)))
  rw [zpPointer, addrOf_toNat, low, high, zeroPageWord, Nat.mod_eq_of_lt p.isLt, BitVec.toNat_add]
  rfl

/-! ### The effective address -/

theorem indexedAddress_toNat (cls : AccessClass) (base : Addr) (index : Byte) (s : State) :
    (indexedAddress cls base index s).1.toNat = (base.toNat + index.toNat) % 65536 := by
  have address : (indexedAddress cls base index s).1 = base + zext16 index := by cases cls <;> rfl
  rw [address, BitVec.toNat_add, zext16_toNat]

theorem effectiveAddress_toNat (cls : AccessClass) (m : EaMode) (s : State) :
    (effectiveAddress cls m s).1.toNat = specAddress s m := by
  cases m with
  | zp b => exact zext16_toNat b
  | zpx b => exact zext16_add_toNat b s.regs.x
  | zpy b => exact zext16_add_toNat b s.regs.y
  | abs w => rfl
  | abx w => exact indexedAddress_toNat cls w s.regs.x s
  | aby w => exact indexedAddress_toNat cls w s.regs.y s
  | izx b =>
    calc (zpPointer (b + s.regs.x) (tick s)).1.toNat
        = zeroPageWord (tick s) (b + s.regs.x).toNat := zpPointer_toNat _ _
      _ = zeroPageWord s (b + s.regs.x).toNat := (cycled_tick s).zeroPageWord _
      _ = specAddress s (.izx b) := congrArg (zeroPageWord s) (BitVec.toNat_add b s.regs.x)
  | izy b =>
    have index : (zpPointer b s).2.regs.y = s.regs.y := congrArg Regs.y (cycled_zpPointer b s).regs
    simp only [effectiveAddress, indexedAddress_toNat, zpPointer_toNat, index, specAddress]

/-- The operand read is of the byte stored at the effective address when the instruction executes. -/
theorem readOperand_stored {m : EaMode} {s : State} {v : Byte}
    (stored : storedByte s (BitVec.ofNat 16 (specAddress s m)) = some v) : (readOperand m s).1 = v := by
  have address : (effectiveAddress .read m s).1 = BitVec.ofNat 16 (specAddress s m) := by
    rw [← effectiveAddress_toNat .read m s, BitVec.ofNat_toNat, BitVec.setWidth_eq]
  rw [← address, ← (cycled_effectiveAddress .read m s).storedByte] at stored
  exact memRead_stored stored

/-- Settles O7: the address mode by mode (`effectiveAddress_toNat`), its cycles store nothing
(`cycled_effectiveAddress`), and the operand is the stored byte (`readOperand_stored`). -/
theorem effectiveAddressValue : Obligations.EffectiveAddressValue := by
  unfold Obligations.EffectiveAddressValue
  refine ⟨fun cls m s => ?_, fun m s v stored => readOperand_stored stored⟩
  have cycles := cycled_effectiveAddress cls m s
  exact ⟨effectiveAddress_toNat cls m s, cycles.regs, cycles.undisturbed⟩

end Sys2Proof.Machine
end

section
/-!
SUPPORT. O15: the shifts. Each operation in numbers, and what a read-modify-write instruction needs to complete
(43_shift_rotate.md R330 to R333).
-/

namespace Sys2Proof.Machine

/-! ### The operations in numbers -/

theorem setNZ_eq_nz (v : Byte) (p : Flags) : p.setNZ v = nz v p := by
  have n : v.getLsbD 7 = decide (128 ≤ v.toNat) := BitVec.msb_eq_decide v
  have z : (v == 0) = decide (v.toNat = 0) := by
    rw [Bool.eq_iff_iff, beq_iff_eq, decide_eq_true_iff, ← BitVec.toNat_inj]
    rfl
  simp only [Flags.setNZ, nz, n, z]

theorem getLsbD_seven_eq_topBit (m : Byte) : m.getLsbD 7 = topBit m := BitVec.msb_eq_decide m

theorem getLsbD_zero_eq_lowBit (m : Byte) : m.getLsbD 0 = lowBit m := Nat.testBit_zero m.toNat

theorem rolByte_eq (c : Bool) (m : Byte) : rolByte c m = leftByte c m := by
  have carry := c.toNat_le
  apply BitVec.eq_of_toNat_eq
  simp only [rolByte, leftByte, toNat_append_eq, BitVec.extractLsb'_toNat, BitVec.toNat_ofBool, BitVec.toNat_ofNat,
    Nat.shiftRight_zero]
  omega

theorem rorByte_eq (c : Bool) (m : Byte) : rorByte c m = rightByte c m := by
  have carry := c.toNat_le
  have byte := m.isLt
  apply BitVec.eq_of_toNat_eq
  simp only [rorByte, rightByte, toNat_append_eq, BitVec.extractLsb'_toNat, BitVec.toNat_ofBool, BitVec.toNat_ofNat,
    Nat.shiftRight_eq_div_pow]
  omega

theorem aslByte_eq (m : Byte) : aslByte m = leftByte false m := by
  apply BitVec.eq_of_toNat_eq
  simp only [aslByte, leftByte, BitVec.toNat_shiftLeft, Nat.shiftLeft_eq, BitVec.toNat_ofNat, Bool.toNat_false]
  omega

theorem lsrByte_eq (m : Byte) : lsrByte m = rightByte false m := by
  have byte := m.isLt
  apply BitVec.eq_of_toNat_eq
  simp only [lsrByte, rightByte, BitVec.toNat_ushiftRight, Nat.shiftRight_eq_div_pow, BitVec.toNat_ofNat,
    Bool.toNat_false]
  omega

theorem opAsl_eq (m : Byte) (r : Regs) :
    opAsl m r = (leftByte false m, withNZ (leftByte false m) (withC (topBit m) r)) := by
  rw [opAsl, aslByte_eq, setNZ_eq_nz, getLsbD_seven_eq_topBit]
  rfl

theorem opLsr_eq (m : Byte) (r : Regs) :
    opLsr m r = (rightByte false m, withNZ (rightByte false m) (withC (lowBit m) r)) := by
  rw [opLsr, lsrByte_eq, setNZ_eq_nz, getLsbD_zero_eq_lowBit]
  rfl

theorem opRol_eq (m : Byte) (r : Regs) :
    opRol m r = (leftByte r.p.c m, withNZ (leftByte r.p.c m) (withC (topBit m) r)) := by
  rw [opRol, rolByte_eq, setNZ_eq_nz, getLsbD_seven_eq_topBit]
  rfl

theorem opRor_eq (m : Byte) (r : Regs) :
    opRor m r = (rightByte r.p.c m, withNZ (rightByte r.p.c m) (withC (lowBit m) r)) := by
  rw [opRor, rorByte_eq, setNZ_eq_nz, getLsbD_zero_eq_lowBit]
  rfl

/-! ### The instructions -/

section

variable {i : Instr} {op : Byte → Regs → Byte × Regs}

theorem modifyCompletes_of_exec {e : EaMode} {f : Byte → Regs → Byte} {g : Byte → Regs → Regs}
    (operand : instrOperand i = .memory e) (meaning : exec i = runModify op e)
    (effect : ∀ m r, op m r = (f m r, g m r)) : ModifyCompletes i f g := by
  intro s
  have run := runModify_spec op e s
  simp only [effect, ← meaning] at run
  exact ⟨e, operand, run⟩

theorem registerCompletes_of_exec {f : Regs → Regs} (meaning : exec i = runAccumulator op)
    (effect : ∀ r, { (op r.a r).2 with a := (op r.a r).1 } = f r) : RegisterCompletes i f := by
  intro s
  have run := runAccumulator_spec op s
  simp only [effect, ← meaning] at run
  exact run

end

/-- The operation of a shift mnemonic. -/
def shiftOperation : Mnemonic → Option (Byte → Regs → Byte × Regs)
  | .ASL => some opAsl
  | .LSR => some opLsr
  | .ROL => some opRol
  | .ROR => some opRor
  | _ => none

/-- The four memory modes of each shift are its operation in the read-modify-write sequence. -/
theorem exec_of_shiftOperation {i : Instr} {e : EaMode} {op : Byte → Regs → Byte × Regs}
    (operand : instrOperand i = .memory e) (shift : shiftOperation i.mnemonic = some op) :
    exec i = runModify op e := by
  cases i
  case aslZp | aslAbs | aslZpx | aslAbx | lsrZp | lsrAbs | lsrZpx | lsrAbx | rolZp | rolAbs | rolZpx | rolAbx
      | rorZp | rorAbs | rorZpx | rorAbx =>
    cases operand
    cases shift
    rfl
  case aslAcc | lsrAcc | rolAcc | rorAcc => cases operand
  all_goals cases shift

/-- Settles O15: each operation in numbers, run in the read-modify-write sequence or on A. -/
theorem shiftInstructions : Obligations.ShiftInstructions := by
  unfold Obligations.ShiftInstructions
  refine ⟨fun i e operand => ?memory, ?asl, ?lsr, ?rol, ?ror⟩
  case memory =>
    have completes {name : Mnemonic} {op : Byte → Regs → Byte × Regs} {f g} (shift : shiftOperation name = some op)
        (effect : ∀ m r, op m r = (f m r, g m r)) (named : i.mnemonic = name) : ModifyCompletes i f g :=
      modifyCompletes_of_exec operand (exec_of_shiftOperation operand (named ▸ shift)) effect
    exact ⟨completes rfl opAsl_eq, completes rfl opLsr_eq, completes rfl opRol_eq, completes rfl opRor_eq⟩
  case asl => exact registerCompletes_of_exec rfl fun r => by rw [opAsl_eq]; rfl
  case lsr => exact registerCompletes_of_exec rfl fun r => by rw [opLsr_eq]; rfl
  case rol => exact registerCompletes_of_exec rfl fun r => by rw [opRol_eq]; rfl
  case ror => exact registerCompletes_of_exec rfl fun r => by rw [opRor_eq]; rfl

end Sys2Proof.Machine
end

section
/-!
SUPPORT. O28: the fetch of an instruction that storage holds. Each byte fetch gives the stored byte and moves PC past
it; the bytes that are only looked at are the stored ones too (40_addressing_modes.md R240; log entry 8).
-/

namespace Sys2Proof.Machine

/-! ### Byte fetches -/

/-- `n` bytes have been fetched from `s` on: PC is past them, no stored byte and nothing else has changed. -/
structure Fetched (n : Nat) (s t : State) : Prop where
  regs : t.regs = { s.regs with pc := s.regs.pc + BitVec.ofNat 16 n }
  undisturbed : Undisturbed s t
  stored : ∀ a, storedByte t a = storedByte s a

theorem Fetched.pc_add {n : Nat} {s t : State} (h : Fetched n s t) (k : Nat) :
    t.regs.pc + BitVec.ofNat 16 k = s.regs.pc + BitVec.ofNat 16 (n + k) := by
  rw [h.regs, BitVec.ofNat_add, ← BitVec.add_assoc]

theorem fetched_zero (s : State) : Fetched 0 s s :=
  ⟨by simp, (Cycled.refl s).undisturbed, fun _ => rfl⟩

theorem Fetched.fetchByte {n : Nat} {s t : State} (h : Fetched n s t) : Fetched (n + 1) s (fetchByte t).2 := by
  obtain ⟨regs, undisturbed, stored, -⟩ := fetchByte_spec t
  refine ⟨?_, h.undisturbed.trans undisturbed, fun a => (stored a).trans (h.stored a)⟩
  rw [regs, ← h.pc_add 1, h.regs]
  rfl

theorem Fetched.fetchByte_eq {n : Nat} {s t : State} (h : Fetched n s t) {v : Byte}
    (held : storedByte s (s.regs.pc + BitVec.ofNat 16 n) = some v) : (Machine.fetchByte t).1 = v := by
  obtain ⟨-, -, -, value⟩ := fetchByte_spec t
  refine value v ((h.stored _).trans ?_)
  rw [h.regs]
  exact held

theorem Fetched.lookAhead_eq {n : Nat} {s t : State} (h : Fetched n s t) (k : Nat) {v : Byte}
    (held : storedByte s (s.regs.pc + BitVec.ofNat 16 (n + k)) = some v) : lookAhead (BitVec.ofNat 16 k) t = v := by
  refine lookAhead_stored ((h.stored _).trans ?_)
  rw [h.pc_add]
  exact held

/-! ### What the opcode alone says -/

theorem mnemonic_opcodeCell (i : Instr) : ((opcodeCell i.opcode).instr 0 0).mnemonic = i.mnemonic := by
  cases i
  all_goals
    dsimp only [Instr.opcode]
    rfl

theorem mnemonic_eq_of_encode {i j : Instr} {op : Byte} {bs cs : List Byte} (hi : encode i = op :: bs)
    (hj : encode j = op :: cs) : i.mnemonic = j.mnemonic := by
  have opcodes : i.opcode = j.opcode := (List.cons.inj hi).1.trans (List.cons.inj hj).1.symm
  rw [← mnemonic_opcodeCell i, opcodes, mnemonic_opcodeCell]

theorem isSlot_eq_of_mnemonic {i j : Instr} (c : Params) (h : i.mnemonic = j.mnemonic) : i.isSlot c = j.isSlot c := by
  simp only [Instr.isSlot, Instr.unstable, Instr.optional, h]

/-- JSR has two operand bytes. -/
theorem encode_length_of_jsr {i : Instr} (h : i.mnemonic = .JSR) : (encode i).length = 3 := by
  cases i
  case jsrAbs => rfl
  all_goals cases h

/-! ### The instruction's fetch -/

theorem fetchInstr_of_f1 {s : State} {i : Instr} (cell : opcodeCell (fetchByte s).1 = .f1 i) :
    fetchInstr s = (i, (fetchByte s).2) := by
  simp only [fetchInstr, cell]

theorem fetchInstr_of_f2 {s : State} {f : Byte → Instr} (cell : opcodeCell (fetchByte s).1 = .f2 f) :
    fetchInstr s =
      let r := (fetchByte s).2
      if (f 0).isSlot s.cfg then (f (lookAhead 0 r), r) else (f (fetchByte r).1, (fetchByte r).2) := by
  simp only [fetchInstr, cell]

theorem fetchInstr_of_f3 {s : State} {f : Addr → Instr} (cell : opcodeCell (fetchByte s).1 = .f3 f) :
    fetchInstr s =
      let r := (fetchByte s).2
      let q := fetchByte r
      if (f 0).isSlot s.cfg then (f (addrOf (lookAhead 0 r) (lookAhead 1 r)), r)
      else if (f 0).mnemonic = .JSR then (f (addrOf q.1 (lookAhead 0 q.2)), q.2)
      else (f (addrOf q.1 (fetchByte q.2).1), (fetchByte q.2).2) := by
  simp only [fetchInstr, cell]

/-- The number of bytes of an instruction that are fetched before it executes (log entry 8). -/
def fetchedBytes (c : Params) (i : Instr) : Nat :=
  if i.isSlot c then 1 else if i.mnemonic = .JSR then 2 else (encode i).length

/-- Where storage holds the bytes of an instruction at PC, that instruction is fetched. -/
theorem fetchInstr_encoded {s : State} {i : Instr}
    (held : ∀ k, k < (encode i).length → storedByte s (s.regs.pc + BitVec.ofNat 16 k) = (encode i)[k]?) :
    (fetchInstr s).1 = i ∧ Fetched (fetchedBytes s.cfg i) s (fetchInstr s).2 := by
  have one := (fetched_zero s).fetchByte
  have two := one.fetchByte
  have opcode : (fetchByte s).1 = i.opcode := (fetched_zero s).fetchByte_eq (held 0 (Nat.succ_pos _))
  have encodes := opcodeCell_encodes i
  rw [← opcode] at encodes
  generalize cell : opcodeCell (fetchByte s).1 = c at encodes
  unfold fetchedBytes
  cases encodes with
  | f1 bytes =>
    have noJsr : i.mnemonic ≠ .JSR := fun jsr => by simpa [bytes] using encode_length_of_jsr jsr
    rw [fetchInstr_of_f1 cell, if_neg noJsr, bytes, List.length_singleton, ite_self]
    exact ⟨rfl, one⟩
  | @f2 f b bytes =>
    have mnemonic : (f 0).mnemonic = (f b).mnemonic := mnemonic_eq_of_encode (bytes 0) (bytes b)
    have noJsr : (f b).mnemonic ≠ .JSR := fun jsr => by simpa [bytes] using encode_length_of_jsr jsr
    have operand : storedByte s (s.regs.pc + BitVec.ofNat 16 1) = some b := by simpa [bytes] using held 1
    rw [fetchInstr_of_f2 cell, isSlot_eq_of_mnemonic s.cfg mnemonic, if_neg noJsr, bytes b]
    dsimp only
    split
    · exact ⟨congrArg f (one.lookAhead_eq 0 operand), one⟩
    · exact ⟨congrArg f (one.fetchByte_eq operand), two⟩
  | @f3 f w bytes =>
    have mnemonic : (f 0).mnemonic = (f w).mnemonic := mnemonic_eq_of_encode (bytes 0) (bytes w)
    have low : storedByte s (s.regs.pc + BitVec.ofNat 16 1) = some (loByte w) := by simpa [bytes] using held 1
    have high : storedByte s (s.regs.pc + BitVec.ofNat 16 2) = some (hiByte w) := by simpa [bytes] using held 2
    have word {lo hi : Byte} (hlo : lo = loByte w) (hhi : hi = hiByte w) : f (addrOf lo hi) = f w := by
      rw [hlo, hhi, addrOf_loByte_hiByte]
    rw [fetchInstr_of_f3 cell, isSlot_eq_of_mnemonic s.cfg mnemonic, mnemonic, bytes w]
    dsimp only
    split
    · exact ⟨word (one.lookAhead_eq 0 low) (one.lookAhead_eq 1 high), one⟩
    split
    · exact ⟨word (one.fetchByte_eq low) (two.lookAhead_eq 0 high), two⟩
    · exact ⟨word (one.fetchByte_eq low) (two.fetchByte_eq high), two.fetchByte⟩

/-! ### The step -/

/-- Settles O28: the bytes are the instruction's encoding (`decodeThenEncode`), so the step fetches it
(`fetchInstr_encoded`) and goes on as its definition says. -/
theorem stepRunsDecoded : Obligations.StepRunsDecoded := by
  unfold Obligations.StepRunsDecoded
  intro s bs i running awake decoded held
  obtain ⟨-, bytes⟩ := decodeThenEncode i bs [] decoded
  rw [List.append_nil] at bytes
  subst bytes
  obtain ⟨instr, fetched⟩ := fetchInstr_encoded (s := { s with delta := 0 }) held
  have iBefore : (fetchInstr { s with delta := 0 }).2.regs.p.i = s.regs.p.i := by rw [fetched.regs]
  refine ⟨_, fetched.regs, fetched.undisturbed, ?_⟩
  unfold step
  split
  next faulted => cases running.symm.trans faulted
  next =>
    dsimp only
    rw [if_neg (Bool.eq_false_iff.mp awake), instr, iBefore]
    rfl

end Sys2Proof.Machine
end

section
/-!
SUPPORT. O9 to O11: loads, stores and register transfers. Each operation in numbers, and what an instruction of the read
class, the write class and the implied mode needs to complete (41_load_store_transfer.md R280 to R291,
46_undocumented.md R380, R381).
-/

namespace Sys2Proof.Machine

/-! ### Completion from the access class -/

/-- The instruction is of the read class over `op`, with an immediate or a memory operand (40_addressing_modes.md R243,
R254). -/
inductive ReadClass (op : Byte → Regs → Regs) (i : Instr) : Prop
  | immediate (m : Byte) (operand : instrOperand i = .immediate m) (meaning : exec i = runImmediate op m)
  | memory (e : EaMode) (operand : instrOperand i = .memory e) (meaning : exec i = runRead op e)

theorem ReadClass.readCompletes {op f : Byte → Regs → Regs} {i : Instr} (h : ReadClass op i)
    (effect : ∀ m r, op m r = f m r) : ReadCompletes i f := by
  obtain rfl : op = f := funext₂ effect
  intro s
  obtain ⟨m, operand, meaning⟩ | ⟨e, operand, meaning⟩ := h
  · rw [operand, meaning]
    exact ⟨(m, s), rfl, runImmediate_spec op m s⟩
  · rw [operand, meaning]
    exact ⟨readOperand e s, rfl, runRead_spec op e s⟩

/-- The instruction is of the write class, storing `value` (40_addressing_modes.md R255). -/
def WriteClass (value : Regs → Byte) (i : Instr) : Prop :=
  ∃ e, instrOperand i = .memory e ∧ exec i = runWrite value e

theorem WriteClass.writeCompletes {value : Regs → Byte} {i : Instr} (h : WriteClass value i) :
    WriteCompletes i value := by
  obtain ⟨e, operand, meaning⟩ := h
  intro s
  rw [meaning]
  exact ⟨e, operand, runWrite_spec value e s⟩

theorem registerCompletes_of_runImplied {op f : Regs → Regs} {i : Instr} (meaning : exec i = runImplied op)
    (effect : ∀ r, op r = f r) : RegisterCompletes i f := by
  obtain rfl : op = f := funext effect
  intro s
  rw [meaning]
  exact runImplied_spec op s

/-! ### Loads -/

/-- The operation of a load mnemonic. -/
def loadOperation : Mnemonic → Option (Byte → Regs → Regs)
  | .LDA => some opLda
  | .LDX => some opLdx
  | .LDY => some opLdy
  | .LAX => some opLax
  | _ => none

/-- Every form of a load is its operation in the read class. -/
theorem readClass_of_loadOperation {i : Instr} {op : Byte → Regs → Regs} (load : loadOperation i.mnemonic = some op) :
    ReadClass op i := by
  cases i
  case ldaImm | ldxImm | ldyImm =>
    cases load
    exact .immediate _ rfl rfl
  case ldaIzx | ldaZp | ldaAbs | ldaIzy | ldaZpx | ldaAby | ldaAbx | ldxZp | ldxAbs | ldxZpy | ldxAby | ldyZp | ldyAbs
      | ldyZpx | ldyAbx | laxIzx | laxZp | laxAbs | laxIzy | laxZpy | laxAby =>
    cases load
    exact .memory _ rfl rfl
  all_goals cases load

theorem opLda_eq (m : Byte) (r : Regs) : opLda m r = setA m r := by rw [opLda, setNZ_eq_nz, setA]

theorem opLdx_eq (m : Byte) (r : Regs) : opLdx m r = { r with x := m, p := nz m r.p } := by rw [opLdx, setNZ_eq_nz]

theorem opLdy_eq (m : Byte) (r : Regs) : opLdy m r = { r with y := m, p := nz m r.p } := by rw [opLdy, setNZ_eq_nz]

theorem opLax_eq (m : Byte) (r : Regs) : opLax m r = { r with a := m, x := m, p := nz m r.p } := by
  rw [opLax, setNZ_eq_nz]

/-- Settles O9: each load's operation in numbers, run in the read class. -/
theorem loadInstructions : Obligations.LoadInstructions := by
  unfold Obligations.LoadInstructions
  intro i
  have completes {name : Mnemonic} {op f : Byte → Regs → Regs} (load : loadOperation name = some op)
      (effect : ∀ m r, op m r = f m r) (named : i.mnemonic = name) : ReadCompletes i f :=
    (readClass_of_loadOperation (named ▸ load)).readCompletes effect
  exact ⟨completes rfl opLda_eq, completes rfl opLdx_eq, completes rfl opLdy_eq, completes rfl opLax_eq⟩

/-! ### Stores -/

/-- The value a store mnemonic stores. -/
def storeValue : Mnemonic → Option (Regs → Byte)
  | .STA => some Regs.a
  | .STX => some Regs.x
  | .STY => some Regs.y
  | .SAX => some valueSax
  | _ => none

/-- Every form of a store is its value in the write class. -/
theorem writeClass_of_storeValue {i : Instr} {value : Regs → Byte} (store : storeValue i.mnemonic = some value) :
    WriteClass value i := by
  cases i
  case staIzx | staZp | staAbs | staIzy | staZpx | staAby | staAbx | stxZp | stxAbs | stxZpy | styZp | styAbs | styZpx
      | saxIzx | saxZp | saxAbs | saxZpy =>
    cases store
    exact ⟨_, rfl, rfl⟩
  all_goals cases store

/-- Settles O10: each store's value, run in the write class. -/
theorem storeInstructions : Obligations.StoreInstructions := by
  unfold Obligations.StoreInstructions
  intro i
  have completes {name : Mnemonic} {value : Regs → Byte} (store : storeValue name = some value)
      (named : i.mnemonic = name) : WriteCompletes i value :=
    (writeClass_of_storeValue (named ▸ store)).writeCompletes
  exact ⟨completes rfl, completes rfl, completes rfl, completes rfl⟩

/-! ### Register transfers -/

/-- Settles O11: each transfer is one tick and its operation on the registers; TXS's alone sets no flag. -/
theorem transferInstructions : Obligations.TransferInstructions := by
  unfold Obligations.TransferInstructions
  refine ⟨?tax, ?tay, ?txa, ?tya, ?tsx, ?txs⟩
  case tax => exact registerCompletes_of_runImplied rfl fun r => by rw [opTax, setNZ_eq_nz]
  case tay => exact registerCompletes_of_runImplied rfl fun r => by rw [opTay, setNZ_eq_nz]
  case txa => exact registerCompletes_of_runImplied rfl fun r => by rw [opTxa, setNZ_eq_nz, setA]
  case tya => exact registerCompletes_of_runImplied rfl fun r => by rw [opTya, setNZ_eq_nz, setA]
  case tsx => exact registerCompletes_of_runImplied rfl fun r => by rw [opTsx, setNZ_eq_nz]
  case txs => exact registerCompletes_of_runImplied rfl fun _ => rfl

end Sys2Proof.Machine
end

section
/-!
SUPPORT. O12 to O14: arithmetic, logic, compares, increments and decrements. `AddC`, its one's-complement subtraction
and `Cmp` in numbers, then each mnemonic's operation in its access class (42_arithmetic_logic.md R300 to R316,
46_undocumented.md R382).
-/

namespace Sys2Proof.Machine

/-! ### `AddC` and `Cmp` in numbers -/

theorem addCOverflow_eq_topBit (a b : Byte) (c : Bool) : addCOverflow a b c =
    ((topBit a ^^ topBit (addCResult a b c)) && (topBit b ^^ topBit (addCResult a b c))) := by
  rw [addCOverflow, BitVec.getLsbD_and, BitVec.getLsbD_xor, BitVec.getLsbD_xor]
  simp only [getLsbD_seven_eq_topBit]

/-- Signed overflow: the addends' signs agree and the sum's differs iff the exact signed sum is no signed byte. -/
theorem addCOverflow_eq (a b : Byte) (c : Bool) :
    addCOverflow a b c = signedOutside (a.toInt + b.toInt + (c.toNat : Int)) := by
  have carry := c.toNat_le
  have aByte := a.isLt
  have bByte := b.isLt
  have sum : (addCResult a b c).toNat = (a.toNat + b.toNat + c.toNat) % 256 := BitVec.toNat_ofNat _ 8
  rw [addCOverflow_eq_topBit, Bool.eq_iff_iff]
  simp only [topBit, sum, signedOutside, BitVec.toInt_eq_toNat_cond, Bool.and_eq_true, Bool.or_eq_true, bne_iff_ne,
    ne_eq, decide_eq_decide, decide_eq_true_iff]
  omega

theorem opAdc_eq (m : Byte) (r : Regs) : opAdc m r = addRegs m r := by
  rw [opAdc, Flags.addC, setNZ_eq_nz, addCOverflow_eq]
  rfl

/-- Adding the one's complement, with the carry as "no borrow", is subtracting. -/
theorem addRegs_complement (m : Byte) (r : Regs) : addRegs (m ^^^ 0xFF) r = subRegs m r := by
  have mByte := m.isLt
  have carry := r.p.c.toNat_le
  have complement : m ^^^ 0xFF = ~~~m := BitVec.xor_allOnes
  have unsigned : (~~~m).toNat = 255 - m.toNat := BitVec.toNat_not
  have signed : (~~~m).toInt = -m.toInt - 1 := by
    simp only [BitVec.toInt_eq_toNat_cond, unsigned]
    omega
  have sum : r.a.toNat + (~~~m).toNat + r.p.c.toNat = r.a.toNat + 256 - (m.toNat + (1 - r.p.c.toNat)) := by omega
  have noBorrow : 255 < r.a.toNat + 256 - (m.toNat + (1 - r.p.c.toNat)) ↔
      m.toNat + (1 - r.p.c.toNat) ≤ r.a.toNat := by omega
  have difference : r.a.toInt + (~~~m).toInt + (r.p.c.toNat : Int)
      = r.a.toInt - m.toInt - ((1 - r.p.c.toNat : Nat) : Int) := by omega
  simp only [addRegs, subRegs, complement, sum, noBorrow, difference]

theorem opSbc_eq (m : Byte) (r : Regs) : opSbc m r = subRegs m r :=
  (opAdc_eq _ r).trans (addRegs_complement m r)

theorem cmp_eq_cmpFlags (x m : Byte) (p : Flags) : p.cmp x m = cmpFlags x m p := by
  have difference : x - m = BitVec.ofNat 8 (x.toNat + 256 - m.toNat) := by
    have byte := m.isLt
    apply BitVec.eq_of_toNat_eq
    rw [BitVec.toNat_sub, BitVec.toNat_ofNat]
    congr 1
    omega
  rw [Flags.cmp, setNZ_eq_nz, difference, cmpFlags]

/-! ### The operations of the read class -/

theorem opAnd_eq (m : Byte) (r : Regs) : opAnd m r = setA (r.a &&& m) r := by rw [opAnd, setNZ_eq_nz, setA]

theorem opOra_eq (m : Byte) (r : Regs) : opOra m r = setA (r.a ||| m) r := by rw [opOra, setNZ_eq_nz, setA]

theorem opEor_eq (m : Byte) (r : Regs) : opEor m r = setA (r.a ^^^ m) r := by rw [opEor, setNZ_eq_nz, setA]

theorem opCmp_eq (m : Byte) (r : Regs) : opCmp m r = { r with p := cmpFlags r.a m r.p } := by
  rw [opCmp, cmp_eq_cmpFlags]

theorem opCpx_eq (m : Byte) (r : Regs) : opCpx m r = { r with p := cmpFlags r.x m r.p } := by
  rw [opCpx, cmp_eq_cmpFlags]

theorem opCpy_eq (m : Byte) (r : Regs) : opCpy m r = { r with p := cmpFlags r.y m r.p } := by
  rw [opCpy, cmp_eq_cmpFlags]

theorem getLsbD_six_eq_decide (m : Byte) : m.getLsbD 6 = decide (64 ≤ m.toNat % 128) := by
  rw [BitVec.getLsbD, Nat.testBit_eq_decide_div_mod_eq, decide_eq_decide]
  omega

theorem opBit_eq (m : Byte) (r : Regs) : opBit m r =
    { r with p := { r.p with
        n := topBit m
        v := decide (64 ≤ m.toNat % 128)
        z := decide ((r.a &&& m).toNat = 0) } } := by
  have zero : (r.a &&& m == 0) = decide ((r.a &&& m).toNat = 0) := congrArg Flags.z (setNZ_eq_nz (r.a &&& m) r.p)
  rw [opBit, zero, getLsbD_seven_eq_topBit, getLsbD_six_eq_decide]

/-- The operation of an arithmetic, logic or compare mnemonic of the read class. -/
def arithmeticOperation : Mnemonic → Option (Byte → Regs → Regs)
  | .ADC => some opAdc
  | .SBC => some opSbc
  | .AND => some opAnd
  | .ORA => some opOra
  | .EOR => some opEor
  | .CMP => some opCmp
  | .CPX => some opCpx
  | .CPY => some opCpy
  | .BIT => some opBit
  | _ => none

/-- Every form of such a mnemonic, SBC's undocumented copy too, is its operation in the read class. -/
theorem readClass_of_arithmeticOperation {i : Instr} {op : Byte → Regs → Regs}
    (arithmetic : arithmeticOperation i.mnemonic = some op) : ReadClass op i := by
  cases i
  case adcImm | sbcImm | sbcImmEB | andImm | oraImm | eorImm | cmpImm | cpxImm | cpyImm =>
    cases arithmetic
    exact .immediate _ rfl rfl
  case adcIzx | adcZp | adcAbs | adcIzy | adcZpx | adcAby | adcAbx | sbcIzx | sbcZp | sbcAbs | sbcIzy | sbcZpx | sbcAby
      | sbcAbx | andIzx | andZp | andAbs | andIzy | andZpx | andAby | andAbx | oraIzx | oraZp | oraAbs | oraIzy | oraZpx
      | oraAby | oraAbx | eorIzx | eorZp | eorAbs | eorIzy | eorZpx | eorAby | eorAbx | cmpIzx | cmpZp | cmpAbs | cmpIzy
      | cmpZpx | cmpAby | cmpAbx | cpxZp | cpxAbs | cpyZp | cpyAbs | bitZp | bitAbs =>
    cases arithmetic
    exact .memory _ rfl rfl
  all_goals cases arithmetic

theorem readCompletes_of_arithmeticOperation {i : Instr} {name : Mnemonic} {op f : Byte → Regs → Regs}
    (arithmetic : arithmeticOperation name = some op) (effect : ∀ m r, op m r = f m r) (named : i.mnemonic = name) :
    ReadCompletes i f :=
  (readClass_of_arithmeticOperation (named ▸ arithmetic)).readCompletes effect

/-- Settles O12: `AddC` by exact sums (`opAdc_eq`) and subtraction as its complement (`opSbc_eq`), run in the read
class; D is not read (R301). -/
theorem addSubtract : Obligations.AddSubtract := by
  unfold Obligations.AddSubtract
  exact fun i =>
    ⟨readCompletes_of_arithmeticOperation rfl opAdc_eq, readCompletes_of_arithmeticOperation rfl opSbc_eq⟩

/-- Settles O13: each operation in numbers, run in the read class. -/
theorem logicAndCompare : Obligations.LogicAndCompare := by
  unfold Obligations.LogicAndCompare
  intro i
  refine ⟨?and, ?ora, ?eor, ?cmp, ?cpx, ?cpy, ?bit⟩
  case and => exact readCompletes_of_arithmeticOperation rfl opAnd_eq
  case ora => exact readCompletes_of_arithmeticOperation rfl opOra_eq
  case eor => exact readCompletes_of_arithmeticOperation rfl opEor_eq
  case cmp => exact readCompletes_of_arithmeticOperation rfl opCmp_eq
  case cpx => exact readCompletes_of_arithmeticOperation rfl opCpx_eq
  case cpy => exact readCompletes_of_arithmeticOperation rfl opCpy_eq
  case bit => exact readCompletes_of_arithmeticOperation rfl opBit_eq

/-! ### Increments and decrements -/

/-- The instruction is of the read-modify-write class over `op` (40_addressing_modes.md R256). -/
def ModifyClass (op : Byte → Regs → Byte × Regs) (i : Instr) : Prop :=
  ∃ e, instrOperand i = .memory e ∧ exec i = runModify op e

theorem ModifyClass.modifyCompletes {op : Byte → Regs → Byte × Regs} {i : Instr} {f : Byte → Regs → Byte}
    {g : Byte → Regs → Regs} (h : ModifyClass op i) (effect : ∀ m r, op m r = (f m r, g m r)) :
    ModifyCompletes i f g := by
  obtain ⟨e, operand, meaning⟩ := h
  exact modifyCompletes_of_exec operand meaning effect

/-- The operation of INC or DEC. -/
def incrementOperation : Mnemonic → Option (Byte → Regs → Byte × Regs)
  | .INC => some opInc
  | .DEC => some opDec
  | _ => none

/-- The four forms of INC and of DEC are its operation in the read-modify-write class. -/
theorem modifyClass_of_incrementOperation {i : Instr} {op : Byte → Regs → Byte × Regs}
    (increment : incrementOperation i.mnemonic = some op) : ModifyClass op i := by
  cases i
  case incZp | incAbs | incZpx | incAbx | decZp | decAbs | decZpx | decAbx =>
    cases increment
    exact ⟨_, rfl, rfl⟩
  all_goals cases increment

theorem modifyCompletes_of_incrementOperation {i : Instr} {name : Mnemonic} {op : Byte → Regs → Byte × Regs}
    {f : Byte → Regs → Byte} {g : Byte → Regs → Regs} (increment : incrementOperation name = some op)
    (effect : ∀ m r, op m r = (f m r, g m r)) (named : i.mnemonic = name) : ModifyCompletes i f g :=
  (modifyClass_of_incrementOperation (named ▸ increment)).modifyCompletes effect

theorem opInc_eq (m : Byte) (r : Regs) : opInc m r = (m + 1, withNZ (m + 1) r) := by rw [opInc, setNZ_eq_nz, withNZ]

theorem opDec_eq (m : Byte) (r : Regs) : opDec m r = (m - 1, withNZ (m - 1) r) := by rw [opDec, setNZ_eq_nz, withNZ]

/-- Settles O14: INC and DEC in the read-modify-write sequence, the others one tick and the register's new value; of
the flags SetNZ writes N and Z alone. -/
theorem incrementDecrement : Obligations.IncrementDecrement := by
  unfold Obligations.IncrementDecrement
  refine ⟨fun i => ?memory, ?inx, ?iny, ?dex, ?dey⟩
  case memory =>
    exact ⟨modifyCompletes_of_incrementOperation rfl opInc_eq, modifyCompletes_of_incrementOperation rfl opDec_eq⟩
  case inx => exact registerCompletes_of_runImplied rfl fun r => by rw [opInx, setNZ_eq_nz]
  case iny => exact registerCompletes_of_runImplied rfl fun r => by rw [opIny, setNZ_eq_nz]
  case dex => exact registerCompletes_of_runImplied rfl fun r => by rw [opDex, setNZ_eq_nz]
  case dey => exact registerCompletes_of_runImplied rfl fun r => by rw [opDey, setNZ_eq_nz]

end Sys2Proof.Machine
end

section
/-!
SUPPORT. O17 and O20: NOP and the branches. Every form of a NOP is one tick or an operand's read that is discarded;
every branch is its condition over a taken branch (44_control_flow.md R340 to R348, R354; 46_undocumented.md R389).
-/

namespace Sys2Proof.Machine

/-! ### NOP -/

/-- An implied NOP is one tick; any other discards the operand it reads (44_control_flow.md R354, 46_undocumented.md
R389). -/
inductive NopClass (i : Instr) : Prop
  | implied (operand : instrOperand i = .implied) (meaning : exec i = execNop)
  | read (discards : ReadClass opDiscard i)

theorem nopClass_of_mnemonic {i : Instr} (nop : i.mnemonic = .NOP) : NopClass i := by
  cases i
  case nop | nop1A | nop3A | nop5A | nop7A | nopDA | nopFA => exact .implied rfl rfl
  case nopImm80 | nopImm82 | nopImm89 | nopImmC2 | nopImmE2 => exact .read (.immediate _ rfl rfl)
  case nopZp04 | nopZp44 | nopZp64 | nopAbs | nopZpx14 | nopZpx34 | nopZpx54 | nopZpx74 | nopZpxD4 | nopZpxF4
      | nopAbx1C | nopAbx3C | nopAbx5C | nopAbx7C | nopAbxDC | nopAbxFC => exact .read (.memory _ rfl rfl)
  all_goals cases nop

theorem ReadClass.operand_ne_implied {op : Byte → Regs → Regs} {i : Instr} (h : ReadClass op i) :
    instrOperand i ≠ .implied := by
  obtain ⟨m, operand, -⟩ | ⟨e, operand, -⟩ := h <;> simp [operand]

/-- The operand of a read-class instruction is read in cycles that store nothing. -/
theorem cycled_readValue {o : Operand} {s : State} {r : Byte × State} (h : readValue o s = some r) :
    Cycled s r.2 := by
  cases o with
  | immediate m => cases h; exact .refl s
  | memory m => cases h; exact cycled_readOperand m s
  | implied | accumulator | indirect | relative => cases h

/-- Settles O17: an implied NOP is `tick`; for the others the read class with an operation that keeps the registers
(`ReadClass.readCompletes`), which the read itself has not changed (`cycled_readValue`). -/
theorem nopInstructions : Obligations.NopInstructions := by
  unfold Obligations.NopInstructions
  intro i nop s
  cases nopClass_of_mnemonic nop with
  | implied operand meaning =>
    rw [if_pos operand, meaning]
    exact ⟨rfl, (cycled_tick s).regs, (cycled_tick s).undisturbed⟩
  | read discards =>
    rw [if_neg discards.operand_ne_implied]
    obtain ⟨r, value, completes⟩ := discards.readCompletes (fun _ _ => rfl) s
    have cycles := cycled_readValue value
    have kept : { r.2 with regs := opDiscard r.1 s.regs } = r.2 := by
      rw [opDiscard, ← cycles.regs]
    rw [kept] at completes
    exact ⟨r, value, completes.1, cycles.regs, completes.2⟩

/-! ### Branches -/

/-- The condition of a branch mnemonic. -/
def branchCondition : Mnemonic → Option (Flags → Bool)
  | .BCC => some fun p => !p.c
  | .BCS => some fun p => p.c
  | .BNE => some fun p => !p.z
  | .BEQ => some fun p => p.z
  | .BPL => some fun p => !p.n
  | .BMI => some fun p => p.n
  | .BVC => some fun p => !p.v
  | .BVS => some fun p => p.v
  | _ => none

/-- Every branch is `Branch` of its condition, on its relative operand. -/
theorem exec_of_branchCondition {i : Instr} {condition : Flags → Bool}
    (branch : branchCondition i.mnemonic = some condition) :
    ∃ off, instrOperand i = .relative off ∧ exec i = runBranch condition off := by
  cases i
  case bccRel | bcsRel | bneRel | beqRel | bplRel | bmiRel | bvcRel | bvsRel =>
    cases branch
    exact ⟨_, rfl, rfl⟩
  all_goals cases branch

/-- The branch target in numbers: the signed offset from PC, modulo 65536 (40_addressing_modes.md R253). -/
theorem branchTarget_eq_ofInt (pc : Addr) (off : Byte) :
    branchTarget pc off = BitVec.ofInt 16 (pc.toNat + off.toInt) := by
  rw [branchTarget, sext16, BitVec.signExtend, BitVec.ofInt_add, BitVec.ofInt_natCast, BitVec.ofNat_toNat,
    BitVec.setWidth_eq]

theorem branchCompletes_of_branchCondition {i : Instr} {name : Mnemonic} {condition : Flags → Bool}
    (branch : branchCondition name = some condition) (named : i.mnemonic = name) : BranchCompletes i condition := by
  obtain ⟨off, operand, meaning⟩ := exec_of_branchCondition (named ▸ branch)
  intro s
  refine ⟨off, operand, _, congrFun meaning s, ?_⟩
  rw [← branchTarget_eq_ofInt]
  split
  · exact takeBranch_spec off s
  · exact ⟨rfl, (Cycled.refl s).undisturbed⟩

/-- Settles O20: each branch's condition, run in `Branch` with its target in numbers. -/
theorem branchInstructions : Obligations.BranchInstructions := by
  unfold Obligations.BranchInstructions
  intro i
  and_intros
  all_goals exact branchCompletes_of_branchCondition rfl

end Sys2Proof.Machine
end

section
/-!
SUPPORT. O21 to O23: jumps and subroutines. A chain of pulls and of pushes each has a relation to the state it began in,
which one more pull or push extends (00_scope.md R15; 44_control_flow.md R349 to R352).
-/

namespace Sys2Proof.Machine

/-! ### Words in numbers -/

theorem addrOf_eq_ofNat (lo hi : Byte) : addrOf lo hi = BitVec.ofNat 16 (lo.toNat + 256 * hi.toNat) := by
  rw [← addrOf_toNat, BitVec.ofNat_toNat, BitVec.setWidth_eq]

/-- The pointer's carry does not reach its high byte (40_addressing_modes.md R250). -/
theorem addrOf_nextInPage (w : Addr) :
    addrOf (loByte w + 1) (hiByte w) = BitVec.ofNat 16 (w.toNat / 256 * 256 + (w.toNat + 1) % 256) := by
  rw [addrOf_eq_ofNat, loByte_eq_ofNat, hiByte_eq_ofNat]
  have low : (BitVec.ofNat 8 w.toNat + 1).toNat = (w.toNat + 1) % 256 := by
    rw [BitVec.toNat_add, BitVec.toNat_ofNat]
    exact Nat.mod_add_mod _ 256 1
  have high : (BitVec.ofNat 8 (w.toNat / 256)).toNat = w.toNat / 256 :=
    Nat.mod_eq_of_lt (by have := w.isLt; omega)
  rw [low, high, Nat.add_comm, Nat.mul_comm]

/-! ### JMP -/

/-- The indirect target is the word read at the pointer and at its successor in the page. -/
theorem indirectTarget_toNat {w : Addr} {s : State} {lo hi : Byte} (low : storedByte s w = some lo)
    (high : storedByte s (BitVec.ofNat 16 (w.toNat / 256 * 256 + (w.toNat + 1) % 256)) = some hi) :
    (indirectTarget w s).1.toNat = lo.toNat + 256 * hi.toNat := by
  rw [← addrOf_nextInPage, ← (cycled_memRead w s).storedByte] at high
  simp only [indirectTarget, addrOf_toNat, memRead_stored low, memRead_stored high]

/-- Settles O21: the absolute form writes PC alone; the indirect form reads its target in two cycles that store nothing
(`cycled_indirectTarget`), and where storage answers it is the word of `indirectTarget_toNat`. -/
theorem jumpInstructions : Obligations.JumpInstructions := by
  unfold Obligations.JumpInstructions
  intro w s
  refine ⟨⟨setPc w s, rfl, rfl, undisturbed_setRegs _ s⟩, ?indirect⟩
  case indirect =>
    have cycles := cycled_indirectTarget w s
    refine ⟨setPc (indirectTarget w s).1 (indirectTarget w s).2, rfl, ?_,
      cycles.undisturbed.trans (undisturbed_setRegs _ _), fun lo hi low high => indirectTarget_toNat low high⟩
    simp only [setPc, setRegs_regs, cycles.regs]

/-! ### Pulls -/

/-- A pull after cycles that store nothing gives the byte the slot held before them. -/
theorem Undisturbed.pull {s t : State} (h : Undisturbed s t) :
    (pull t).1 = stackByte s (t.regs.s + 1) ∧ (pull t).2.regs = { t.regs with s := t.regs.s + 1 } ∧
      Undisturbed s (pull t).2 := by
  obtain ⟨value, regs, undisturbed⟩ := pull_spec t
  exact ⟨value.trans (h.bytes.stackByte h.control.cfg _), regs, h.trans undisturbed⟩

/-- Two pulls give a word, low byte first. -/
theorem Undisturbed.pullWord {s t : State} (h : Undisturbed s t) :
    let lo := Machine.pull t
    let hi := Machine.pull lo.2
    addrOf lo.1 hi.1 =
        BitVec.ofNat 16 ((stackByte s (t.regs.s + 1)).toNat + 256 * (stackByte s (t.regs.s + 2)).toNat) ∧
      hi.2.regs = { t.regs with s := t.regs.s + 2 } ∧ Undisturbed s hi.2 := by
  intro lo hi
  obtain ⟨low, lowRegs, afterLow⟩ := h.pull
  obtain ⟨high, highRegs, afterHigh⟩ := afterLow.pull
  have two : t.regs.s + 1 + 1 = t.regs.s + 2 := BitVec.add_assoc _ 1 1
  rw [lowRegs] at high highRegs
  refine ⟨?_, ?_, afterHigh⟩
  · rw [addrOf_eq_ofNat, low, high, two]
  · rw [highRegs, two]

/-- RTI's pulls: P, of which bits 5:4 are no flags, then PC (10_state.md R48). -/
theorem Undisturbed.returnFromInterrupt {s t : State} (h : Undisturbed s t) :
    Undisturbed s (returnFromInterrupt t) ∧ (returnFromInterrupt t).regs = { t.regs with
      s := t.regs.s + 3
      p := Flags.ofByte (stackByte s (t.regs.s + 1))
      pc := BitVec.ofNat 16
        ((stackByte s (t.regs.s + 2)).toNat + 256 * (stackByte s (t.regs.s + 3)).toNat) } := by
  obtain ⟨status, statusRegs, pulled⟩ := h.pull
  have flagged : Undisturbed s (setFlags (fun _ => Flags.ofByte (Machine.pull t).1) (Machine.pull t).2) :=
    pulled.trans (undisturbed_setRegs _ _)
  obtain ⟨word, regs, returned⟩ := flagged.pullWord
  have two : t.regs.s + 1 + 1 = t.regs.s + 2 := BitVec.add_assoc _ 1 1
  have three : t.regs.s + 1 + 2 = t.regs.s + 3 := BitVec.add_assoc _ 1 2
  rw [setFlags_reg_s, statusRegs] at word
  unfold Machine.returnFromInterrupt
  refine ⟨returned.trans (undisturbed_setRegs _ _), ?_⟩
  simp only [setPc, setRegs_regs, regs, word]
  simp only [setFlags_reg_a, setFlags_reg_x, setFlags_reg_y, setFlags_reg_s, setFlags_p, statusRegs, status, two, three]

/-- Settles O23: after two ticks RTS pulls a word and adds one to it (`Undisturbed.pullWord`), and RTI returns from an
interrupt (`Undisturbed.returnFromInterrupt`). -/
theorem returnInstructions : Obligations.ReturnInstructions := by
  unfold Obligations.ReturnInstructions
  intro s
  have idle : Cycled s (tick (tick s)) := (cycled_tick s).trans (cycled_tick _)
  refine ⟨?rts, ?rti⟩
  case rts =>
    obtain ⟨word, regs, pulled⟩ := idle.undisturbed.pullWord
    have last := cycled_tick (pull (pull (tick (tick s))).2).2
    refine ⟨_, rfl, (pulled.trans last.undisturbed).trans (undisturbed_setRegs _ _), ?_⟩
    simp only [setPc, setRegs_regs, last.regs, regs, word, idle.regs, BitVec.ofNat_add]
    rfl
  case rti =>
    obtain ⟨returned, regs⟩ := idle.undisturbed.returnFromInterrupt
    rw [idle.regs] at regs
    exact ⟨_, rfl, returned, regs⟩

/-! ### Pushes -/

/-- From `s` to `t` no stored byte outside the stack slots of `slots` changes, nor any control register or ROM. -/
structure StoredInSlots (slots : List Byte) (s t : State) : Prop where
  bytes : ∀ k a, (∀ sp ∈ slots, (k, a) ≠ stackCell s sp) → cellByte t k a = cellByte s k a
  control : KeptControl s t
  clocked : Clocked s t
  rom : s.cart.SameRom t.cart

section

variable {slots : List Byte} {s t u : State}

theorem stackCell_eq_of_cfg (same : t.cfg = s.cfg) (sp : Byte) : stackCell t sp = stackCell s sp := by
  simp only [stackCell, same]

theorem stackCell_injective (s : State) : Function.Injective (stackCell s) := by
  intro a b same
  have cell : 0x100 + a.toNat = 0x100 + b.toNat := by
    simp only [stackCell] at same
    cases mode : s.cfg.busMode <;> simpa [mode] using same
  exact BitVec.eq_of_toNat_eq (by omega)

theorem StoredInSlots.refl (s : State) : StoredInSlots [] s s :=
  ⟨fun _ _ _ => rfl, (Cycled.refl s).control, .refl s, {}⟩

theorem StoredInSlots.cycled (h : StoredInSlots slots s t) (k : Cycled t u) : StoredInSlots slots s u :=
  ⟨fun m a outside => (k.bytes m a).trans (h.bytes m a outside), h.control.trans k.control, h.clocked.trans k.clocked,
    h.rom.trans (.of_eq k.cart)⟩

theorem StoredInSlots.setRegs (h : StoredInSlots slots s t) (f : Regs → Regs) :
    StoredInSlots slots s (setRegs f t) := by
  have k := undisturbed_setRegs f t
  exact ⟨fun m a outside => (k.bytes m a).trans (h.bytes m a outside), h.control.trans k.control,
    h.clocked.trans k.clocked, h.rom⟩

/-- A push stores in the slot S addresses. -/
theorem StoredInSlots.push (h : StoredInSlots slots s t) (v : Byte) :
    StoredInSlots (t.regs.s :: slots) s (push v t) := by
  obtain ⟨-, -, bytes, control, clocked⟩ := push_spec v t
  refine ⟨fun k a outside => ?_, h.control.trans control, h.clocked.trans clocked,
    h.rom.trans ((Moves.refl t).push v).counted.rom⟩
  obtain ⟨here, before⟩ := List.forall_mem_cons.mp outside
  rw [← stackCell_eq_of_cfg h.control.cfg] at here
  exact (bytes k a here).trans (h.bytes k a before)

theorem stackByte_push (v : Byte) (t : State) (sp : Byte) :
    stackByte (push v t) sp = if sp = t.regs.s then v else stackByte t sp := by
  obtain ⟨-, pushed, bytes, control, -⟩ := push_spec v t
  split
  next here => rw [here, pushed]
  next other =>
    rw [stackByte_eq_cellByte, stackByte_eq_cellByte, stackCell_eq_of_cfg control.cfg]
    exact bytes _ _ fun same => other (stackCell_injective t same)

/-- The two pushes of PC, high byte first, that JSR and the interrupt entry share (44_control_flow.md R350,
60_exceptions.md R420). -/
def pushPc (s : State) : State :=
  let high := push (hiByte s.regs.pc) s
  push (loByte high.regs.pc) high

theorem pushPc_regs (s : State) : (pushPc s).regs = { s.regs with s := s.regs.s - 2 } := by
  have two : s.regs.s - 1 - 1 = s.regs.s - 2 := by bv_omega
  simp only [pushPc, push_regs, two]

theorem stackByte_pushPc_high (s : State) : stackByte (pushPc s) s.regs.s = BitVec.ofNat 8 (s.regs.pc.toNat / 256) := by
  have below : s.regs.s ≠ s.regs.s - 1 := by bv_omega
  simp only [pushPc, stackByte_push, push_regs, if_neg below, if_true, hiByte_eq_ofNat]

theorem stackByte_pushPc_low (s : State) : stackByte (pushPc s) (s.regs.s - 1) = BitVec.ofNat 8 s.regs.pc.toNat := by
  simp only [pushPc, stackByte_push, push_regs, if_true, loByte_eq_ofNat]

theorem StoredInSlots.pushPc (h : StoredInSlots slots s t) :
    StoredInSlots ((t.regs.s - 1) :: t.regs.s :: slots) s (pushPc t) := by
  have below : (Machine.push (hiByte t.regs.pc) t).regs.s = t.regs.s - 1 := by rw [push_regs]
  rw [← below]
  exact (h.push _).push _

/-- A byte stored outside the slots stays stored. -/
theorem StoredInSlots.storedByte (h : StoredInSlots slots s t) {addr : Addr} {v : Byte}
    (stored : storedByte s addr = some v) (outside : ∀ sp ∈ slots, storeTarget s addr ≠ some (stackCell s sp)) :
    storedByte t addr = some v := by
  rw [← stored]
  rcases storedByte_cases stored with ⟨k, i, target, byte⟩ | ⟨-, byte⟩
  · rw [byte t h.control.cfg, byte s rfl, h.bytes k i fun sp mem same => outside sp mem (target.trans (congrArg _ same))]
  · rw [byte t h.control.cfg, byte s rfl, h.rom.prgByte h.control.mapper]

end

/-! ### JSR -/

theorem jumpSubroutine_eq (lo : Byte) (s : State) : jumpSubroutine lo s =
    let u := pushPc (tick s)
    let hi := memRead u.regs.pc u
    setPc (addrOf lo hi.1) hi.2 := rfl

/-- Settles O22: after a tick the return address is pushed (`pushPc`), and the cycle that reads the target's high byte
stores nothing, so a byte stored outside the two slots is still what it reads (`StoredInSlots.storedByte`). -/
theorem subroutineCall : Obligations.SubroutineCall := by
  unfold Obligations.SubroutineCall
  intro w s
  have idle := cycled_tick s
  have pushed := ((StoredInSlots.refl s).cycled idle).pushPc
  have regs := pushPc_regs (tick s)
  have high := stackByte_pushPc_high (tick s)
  have low := stackByte_pushPc_low (tick s)
  rw [idle.regs] at pushed regs high low
  refine ⟨jumpSubroutine (loByte w) s, rfl, ?_⟩
  rw [jumpSubroutine_eq]
  generalize pushPc (tick s) = u at pushed regs high low ⊢
  have pc : u.regs.pc = s.regs.pc := by rw [regs]
  have read := cycled_memRead u.regs.pc u
  have after := (pushed.cycled read).setRegs (fun r => { r with pc := addrOf (loByte w) (memRead u.regs.pc u).1 })
  have bytes (sp : Byte) := read.bytes.stackByte read.cfg sp
  dsimp only
  have target : (addrOf (loByte w) (memRead u.regs.pc u).1).toNat =
      w.toNat % 256 + 256 * (memRead u.regs.pc u).1.toNat := addrOf_toNat _ _
  refine ⟨?_, (bytes _).trans high, (bytes _).trans low, fun k a first second => ?_, after.control, after.clocked, ?_,
    fun hi held first second => ?_⟩
  · rw [setPc, setRegs_regs, read.regs, regs]
  · exact after.bytes k a (List.forall_mem_cons.mpr ⟨second, List.forall_mem_singleton.mpr first⟩)
  · rw [setPc_pc, target]
    omega
  · have kept := pushed.storedByte held (List.forall_mem_cons.mpr ⟨second, List.forall_mem_singleton.mpr first⟩)
    have value : (memRead u.regs.pc u).1 = hi := memRead_stored (pc ▸ kept)
    rw [setPc_pc, target, value]
    omega

end Sys2Proof.Machine
end

section
/-!
SUPPORT. O24: the NMI latch in the two vector cycles of an interrupt entry. Where no dot can request an NMI the latch
does not move; with no stall, a request made in those cycles is at most eight dots old (60_exceptions.md R423;
61_ppu.md R487).
-/

namespace Sys2Proof.Machine

/-! ### What moves the latch -/

theorem busRead_nmiPending (addr : Addr) (s : State) : (busRead addr s).2.nmiPending = s.nmiPending :=
  (busRead_clock addr s).2.2.2.2

theorem advancePhase_nmiPending (s : State) : (advancePhase s).nmiPending = s.nmiPending := by
  unfold advancePhase
  split <;> rfl

theorem advancePhase_ppu (s : State) : (advancePhase s).ppu = s.ppu := by
  unfold advancePhase
  split <;> rfl

/-- An APU tick requests no NMI: the sample fetch is a bus read. -/
theorem apuTick_nmiPending (s : State) : (apuTick s).nmiPending = s.nmiPending := by
  have reader (t : State) : (dmcReader t).nmiPending = t.nmiPending := by
    unfold dmcReader
    split
    · exact busRead_nmiPending t.apu.dmc.curAddr { t with stall := t.stall + t.cfg.dmcStallCycles }
    · rfl
  exact reader { s with apu := (s.apu.tickHead s.cfg).1 }

/-! ### No request can be made -/

/-- No dot can request an NMI: flat mode has none, and PPUCTRL disables the request (61_ppu.md R487). -/
def NmiMuted (s : State) : Prop := s.cfg.busMode = .flat64k ∨ s.ppu.ctrl.toNat < 128

theorem Cycled.nmiMuted {s t : State} (h : Cycled s t) (muted : NmiMuted s) : NmiMuted t := by
  simpa only [NmiMuted, h.cfg, h.ppu.ctrl] using muted

theorem Ppu.requestsNmi_of_disabled {p : Ppu} (disabled : p.ctrl.toNat < 128) : p.requestsNmi = false := by
  have off : p.nmiEnabled = false := by
    rw [Ppu.nmiEnabled, getLsbD_seven_eq_topBit, topBit, decide_eq_false_iff_not]
    omega
  simp [Ppu.requestsNmi, off]

theorem ppuDots_nmiPending (n : Nat) {s : State} (disabled : s.ppu.ctrl.toNat < 128) :
    (ppuDots n s).nmiPending = s.nmiPending := by
  induction n generalizing s with
  | zero => rfl
  | succ n ih =>
    have dot : (ppuDot s).nmiPending = s.nmiPending := by
      simp only [ppuDot, Ppu.requestsNmi_of_disabled disabled, Bool.or_false]
    exact (ih (by rwa [(cycled_ppuDot s).ppu.ctrl])).trans dot

theorem NmiMuted.endCycle {s : State} (muted : NmiMuted s) : (endCycle s).nmiPending = s.nmiPending := by
  change (clockDevices s).nmiPending = s.nmiPending
  unfold clockDevices
  split
  next console =>
    have disabled : (advancePhase s).ppu.ctrl.toNat < 128 := by
      rw [advancePhase_ppu]
      exact muted.resolve_left (by simp [console])
    rw [apuTick_nmiPending, ppuDots_nmiPending _ disabled, advancePhase_nmiPending]
  next => exact advancePhase_nmiPending s

theorem NmiMuted.drainLoop (n : Nat) {s : State} (muted : NmiMuted s) :
    (drainLoop n s).nmiPending = s.nmiPending := by
  induction n generalizing s with
  | zero => rfl
  | succ n ih =>
    unfold Machine.drainLoop
    split
    · rfl
    · have owed : NmiMuted { s with stall := s.stall - 1 } := muted
      exact (ih ((cycled_endCycle _).nmiMuted owed)).trans owed.endCycle

theorem NmiMuted.memRead {s : State} (muted : NmiMuted s) (addr : Addr) :
    (memRead addr s).2.nmiPending = s.nmiPending := by
  have drained : (drainStall s).nmiPending = s.nmiPending := by
    unfold drainStall
    split
    · rfl
    · exact muted.drainLoop _
  have read := (cycled_drainStall s).trans (cycled_busRead addr _)
  exact ((read.nmiMuted muted).endCycle.trans (busRead_nmiPending addr _)).trans drained

/-! ### A request in cycles without a stall -/

/-- No stall is owed and no sample plays, so none will be. -/
structure Unstalled (s : State) : Prop where
  stall : s.stall = 0
  bytesLeft : s.apu.dmc.bytesLeft = 0

theorem Unstalled.drainStall {s : State} (h : Unstalled s) : drainStall s = s := drainStall_of_none s h.stall

/-- With no byte left the reader fetches none (62_apu.md R591). -/
theorem Unstalled.endCycle {s : State} (h : Unstalled s) : Unstalled (endCycle s) := by
  have turn : drainTurn { s with stall := s.stall + 1 } = Machine.endCycle s := rfl
  cases mode : s.cfg.busMode with
  | console =>
    obtain ⟨b, dmc, -, stall⟩ := drainTurn_console { s with stall := s.stall + 1 } mode
    obtain ⟨-, left⟩ := Dmc.clockTimer_reader s.cfg.region s.apu.dmc
    have idle : (s.apu.dmc.clockTimer s.cfg.region).wantsByte = false := by
      simp [Dmc.wantsByte, left, h.bytesLeft]
    simp only [turn, turnDmc, idle] at dmc stall
    exact ⟨stall.trans h.stall, (congrArg Dmc.bytesLeft dmc).trans (left.trans h.bytesLeft)⟩
  | flat64k =>
    obtain ⟨dmc, -, stall⟩ := drainTurn_flat { s with stall := s.stall + 1 } mode
    rw [turn] at dmc stall
    exact ⟨stall.trans h.stall, (congrArg Dmc.bytesLeft dmc).trans h.bytesLeft⟩

theorem Unstalled.tick {s : State} (h : Unstalled s) : Unstalled (tick s) := by
  rw [Machine.tick, h.drainStall]
  exact h.endCycle

theorem Unstalled.memRead {s : State} (h : Unstalled s) (addr : Addr) : Unstalled (memRead addr s).2 := by
  obtain ⟨dmc, stall, -⟩ := busRead_dmc addr s
  have read : Unstalled (busRead addr s).2 := ⟨stall.trans h.stall, (congrArg Dmc.bytesLeft dmc).trans h.bytesLeft⟩
  simp only [Machine.memRead, h.drainStall]
  exact read.endCycle

/-- A push reaches no register of the APU. -/
theorem Unstalled.push {s : State} (h : Unstalled s) (v : Byte) : Unstalled (push v s) := by
  have low : (stackAddr s.regs.s).toNat < 0x2000 := by
    have := s.regs.s.isLt
    rw [stackAddr_toNat]
    omega
  have written : Unstalled (busWrite (stackAddr s.regs.s) v s) := by
    unfold busWrite
    split
    · rw [consoleWrite, if_pos low]
      exact { h with }
    · exact { h with }
  have stored : Unstalled (memWrite (stackAddr s.regs.s) v s) := by
    rw [memWrite, h.drainStall]
    exact written.endCycle
  exact { stored with }

/-! ### Where the PPU stands -/

theorem Ppu.flagEvents_position (p : Ppu) : p.flagEvents.dot = p.dot ∧ p.flagEvents.scanline = p.scanline := by
  simp only [Ppu.flagEvents, apply_ite Ppu.dot, apply_ite Ppu.scanline, ite_self, and_self]

theorem Ppu.tileStep_position (c : Cart) (p : Ppu) :
    (p.tileStep c).dot = p.dot ∧ (p.tileStep c).scanline = p.scanline := by
  unfold Ppu.tileStep
  split <;> exact ⟨rfl, rfl⟩

theorem Ppu.background_position (c : Cart) (p : Ppu) :
    (p.background c).dot = p.dot ∧ (p.background c).scanline = p.scanline := by
  simp only [Ppu.background, Ppu.reload, Ppu.shift, apply_ite Ppu.dot, apply_ite Ppu.scanline,
    (Ppu.tileStep_position c _).1, (Ppu.tileStep_position c _).2, ite_self, and_self]

theorem Ppu.spriteStep_position (cfg : Params) (c : Cart) (p : Ppu) :
    (p.spriteStep cfg c).dot = p.dot ∧ (p.spriteStep cfg c).scanline = p.scanline := by
  simp only [Ppu.spriteStep, Ppu.evaluateSprites, apply_ite Ppu.dot, apply_ite Ppu.scanline, ite_self, and_self]

theorem Ppu.pixelStep_position (cfg : Params) (p : Ppu) :
    (p.pixelStep cfg).dot = p.dot ∧ (p.pixelStep cfg).scanline = p.scanline := by
  simp only [Ppu.pixelStep, apply_ite Ppu.dot, apply_ite Ppu.scanline, ite_self, and_self]

/-- On a line with no odd-frame skip, a dot before the last moves on by one (61_ppu.md R471). -/
theorem Ppu.dotStep_position (cfg : Params) (c : Cart) {p : Ppu} (line : p.scanline ≠ 261) (dot : p.dot < 340) :
    (p.dotStep cfg c).dot = p.dot + 1 ∧ (p.dotStep cfg c).scanline = p.scanline := by
  obtain ⟨flagDot, flagLine⟩ := p.flagEvents_position
  obtain ⟨bgDot, bgLine⟩ := Ppu.background_position c p.flagEvents
  obtain ⟨sprDot, sprLine⟩ := Ppu.spriteStep_position cfg c (p.flagEvents.background c)
  obtain ⟨pixDot, pixLine⟩ := Ppu.pixelStep_position cfg ((p.flagEvents.background c).spriteStep cfg c)
  unfold Ppu.dotStep
  generalize ((p.flagEvents.background c).spriteStep cfg c).pixelStep cfg = q at pixDot pixLine ⊢
  unfold Ppu.advance
  rw [if_neg (by omega), if_neg (by omega)]
  exact ⟨by dsimp only; omega, by dsimp only; omega⟩

theorem busRead_position (addr : Addr) (s : State) :
    (busRead addr s).2.ppu.dot = s.ppu.dot ∧ (busRead addr s).2.ppu.scanline = s.ppu.scanline := by
  simp only [busRead, consoleRead, padRead, latchButtons, ppuRegRead, Ppu.regRead, apuStatusRead, drawOpenBus]
  (repeat' split) <;> exact ⟨rfl, rfl⟩

/-- If an NMI is pending, the dot that requested it, (241, 1), is at most `n` dots back (61_ppu.md R487). -/
def NmiWithin (n : Nat) (s : State) : Prop :=
  s.nmiPending = true → s.ppu.scanline = 241 ∧ 2 ≤ s.ppu.dot ∧ s.ppu.dot ≤ n + 1

theorem NmiWithin.mono {m n : Nat} {s : State} (h : NmiWithin m s) (le : m ≤ n) : NmiWithin n s := by
  intro pending
  obtain ⟨line, low, high⟩ := h pending
  exact ⟨line, low, by omega⟩

theorem NmiWithin.ppuDot {n : Nat} {s : State} (h : NmiWithin n s) (few : n ≤ 300) : NmiWithin (n + 1) (ppuDot s) := by
  intro pending
  have before : s.ppu.scanline = 241 ∧ 1 ≤ s.ppu.dot ∧ s.ppu.dot ≤ n + 1 := by
    rcases Bool.or_eq_true_iff.mp pending with old | new
    · obtain ⟨line, low, high⟩ := h old
      omega
    · simp only [Ppu.requestsNmi, Bool.and_eq_true, beq_iff_eq] at new
      omega
  obtain ⟨line, low, high⟩ := before
  obtain ⟨dot, line'⟩ := Ppu.dotStep_position s.cfg s.cart (p := s.ppu) (by omega) (by omega)
  change (s.ppu.dotStep s.cfg s.cart).scanline = 241 ∧ 2 ≤ (s.ppu.dotStep s.cfg s.cart).dot ∧
    (s.ppu.dotStep s.cfg s.cart).dot ≤ n + 1 + 1
  omega

theorem NmiWithin.ppuDots {n : Nat} (k : Nat) {s : State} (h : NmiWithin n s) (few : n + k ≤ 300) :
    NmiWithin (n + k) (ppuDots k s) := by
  induction k generalizing n s with
  | zero => exact h
  | succ k ih => exact (ih (h.ppuDot (by omega)) (by omega)).mono (by omega)

/-- An APU tick moves no dot. -/
theorem NmiWithin.apuTick {n : Nat} {s : State} (h : NmiWithin n s) : NmiWithin n (apuTick s) := by
  have reader (t : State) : (dmcReader t).ppu.dot = t.ppu.dot ∧ (dmcReader t).ppu.scanline = t.ppu.scanline := by
    unfold dmcReader
    split
    · exact busRead_position _ _
    · exact ⟨rfl, rfl⟩
  obtain ⟨dot, line⟩ := reader { s with apu := (s.apu.tickHead s.cfg).1 }
  intro pending
  change (dmcReader _).ppu.scanline = 241 ∧ 2 ≤ (dmcReader _).ppu.dot ∧ (dmcReader _).ppu.dot ≤ n + 1
  rw [dot, line]
  exact h ((apuTick_nmiPending s).symm.trans pending)

/-- A cycle has at most four dots (20_memory.md R132). -/
theorem NmiWithin.endCycle {n : Nat} {s : State} (h : NmiWithin n s) (few : n ≤ 200) :
    NmiWithin (n + 4) (endCycle s) := by
  change NmiWithin (n + 4) (clockDevices s)
  have phase : NmiWithin n (advancePhase s) := by
    simpa only [NmiWithin, advancePhase_nmiPending, advancePhase_ppu] using h
  unfold clockDevices
  split
  · have dots : dotsThisCycle s ≤ 4 := by
      unfold dotsThisCycle
      (repeat' split) <;> decide
    exact ((phase.ppuDots (dotsThisCycle s) (by omega)).mono (by omega)).apuTick
  · exact phase.mono (by omega)

theorem NmiWithin.memRead {n : Nat} {s : State} (h : NmiWithin n s) (unstalled : Unstalled s) (few : n ≤ 200)
    (addr : Addr) : NmiWithin (n + 4) (memRead addr s).2 := by
  obtain ⟨dot, line⟩ := busRead_position addr s
  have read : NmiWithin n (busRead addr s).2 := by
    simpa only [NmiWithin, busRead_nmiPending, dot, line] using h
  simp only [Machine.memRead, unstalled.drainStall]
  exact read.endCycle few

/-! ### The vector cycles -/

theorem NmiMuted.loadVector {s : State} (muted : NmiMuted s) (vec : Addr) :
    (loadVector vec s).nmiPending = s.nmiPending :=
  (((cycled_memRead vec s).nmiMuted muted).memRead (vec + 1)).trans (muted.memRead vec)

/-- A request in the two vector cycles is at most eight dots old after them. -/
theorem Unstalled.nmiWithin_loadVector {s : State} (h : Unstalled s) (cleared : s.nmiPending = false) (vec : Addr) :
    NmiWithin 8 (loadVector vec s) := by
  have start : NmiWithin 0 s := fun pending => by simp [cleared] at pending
  exact (start.memRead h (by decide) vec).memRead (h.memRead vec) (by decide) (vec + 1)

end Sys2Proof.Machine
end

section
/-!
SUPPORT. O24: the interrupt entry, for every kind of it: three pushes, I set, PC from a vector that storage outside the
stack holds (60_exceptions.md R420 to R423).
-/

namespace Sys2Proof.Machine

/-! ### The pushes -/

/-- The suppressed fetch of an IRQ or an NMI is two idle cycles (60_exceptions.md R420). -/
def suppressedFetch : EntryKind → State → State
  | .brk, s => s
  | .irq, s => tick (tick s)
  | .nmi, s => tick (tick s)

theorem enterPush_eq (kind : EntryKind) (s : State) : enterPush kind s =
    let u := pushPc (suppressedFetch kind s)
    setFlags (fun p => { p with i := true }) (push (u.regs.p.toByte ||| kind.breakField) u) := by
  cases kind <;> rfl

theorem cycled_suppressedFetch (kind : EntryKind) (s : State) : Cycled s (suppressedFetch kind s) := by
  cases kind with
  | brk => exact .refl s
  | irq => exact (cycled_tick s).trans (cycled_tick _)
  | nmi => exact (cycled_tick s).trans (cycled_tick _)

theorem enterPush_regs (kind : EntryKind) (s : State) : (enterPush kind s).regs =
    { s.regs with s := s.regs.s - 3, p := { s.regs.p with i := true } } := by
  have three : s.regs.s - 2 - 1 = s.regs.s - 3 := by bv_omega
  simp only [enterPush_eq, setFlags, setRegs_regs, push_regs, pushPc_regs, (cycled_suppressedFetch kind s).regs, three]

/-- The bytes on the stack: PC, high byte first, and P with the break field (10_state.md R47). -/
theorem stackByte_enterPush (kind : EntryKind) (s : State) :
    stackByte (enterPush kind s) s.regs.s = BitVec.ofNat 8 (s.regs.pc.toNat / 256) ∧
      stackByte (enterPush kind s) (s.regs.s - 1) = BitVec.ofNat 8 s.regs.pc.toNat ∧
      stackByte (enterPush kind s) (s.regs.s - 2) = s.regs.p.toByte ||| kind.breakField := by
  have first : s.regs.s ≠ s.regs.s - 2 := by bv_omega
  have second : s.regs.s - 1 ≠ s.regs.s - 2 := by bv_omega
  have regs := (cycled_suppressedFetch kind s).regs
  have high := stackByte_pushPc_high (suppressedFetch kind s)
  have low := stackByte_pushPc_low (suppressedFetch kind s)
  have after (v : Byte) (t : State) (sp : Byte) :
      stackByte (setFlags (fun p => { p with i := true }) (push v t)) sp =
        if sp = t.regs.s then v else stackByte t sp := stackByte_push v t sp
  rw [regs] at high low
  simp only [enterPush_eq, after, pushPc_regs, regs, if_neg first, if_neg second, if_true, high, low, and_self]

theorem StoredInSlots.enterPush {slots : List Byte} {s t : State} (h : StoredInSlots slots s t) (kind : EntryKind) :
    StoredInSlots ((t.regs.s - 2) :: (t.regs.s - 1) :: t.regs.s :: slots) s (enterPush kind t) := by
  have fetch := cycled_suppressedFetch kind t
  have pushed := (h.cycled fetch).pushPc
  have third : (Machine.pushPc (suppressedFetch kind t)).regs.s = t.regs.s - 2 := by rw [pushPc_regs, fetch.regs]
  rw [fetch.regs] at pushed
  rw [enterPush_eq, ← third]
  exact (pushed.push _).setRegs _

theorem Unstalled.enterPush {s : State} (h : Unstalled s) (kind : EntryKind) : Unstalled (enterPush kind s) := by
  have fetch : Unstalled (suppressedFetch kind s) := by
    cases kind with
    | brk => exact h
    | irq => exact h.tick.tick
    | nmi => exact h.tick.tick
  rw [enterPush_eq]
  exact { ((fetch.push _).push _).push _ with }

/-! ### The vector -/

/-- The entry that takes the NMI vector takes the pending NMI (60_exceptions.md R423). -/
def acknowledgeNmi (vec : Addr) (s : State) : State :=
  { s with nmiPending := if vec = 0xFFFA#16 then false else s.nmiPending }

theorem enterInterrupt_eq (kind : EntryKind) (s : State) : enterInterrupt kind s =
    let u := enterPush kind s
    let vec := entryVector kind u.nmiPending
    loadVector vec (acknowledgeNmi vec u) := rfl

theorem keptControl_acknowledgeNmi (vec : Addr) (s : State) : KeptControl s (acknowledgeNmi vec s) :=
  ⟨rfl, rfl, rfl, rfl, rfl, rfl, rfl, rfl, rfl, rfl, rfl, rfl, rfl, rfl, fun _ => rfl⟩

theorem sameBytes_acknowledgeNmi (vec : Addr) (s : State) : SameBytes s (acknowledgeNmi vec s) :=
  fun k _ => by cases k <;> rfl

/-- Every vector lies in PRG ROM, or in the flat memory outside the stack. -/
theorem entryVector_high (kind : EntryKind) (pending : Bool) :
    0x8000 ≤ (entryVector kind pending).toNat ∧ 0x8000 ≤ (entryVector kind pending + 1).toNat := by
  cases kind <;> cases pending <;> decide

theorem storedByte_of_high (s : State) {addr : Addr} (high : 0x8000 ≤ addr.toNat) :
    ∃ v, storedByte s addr = some v := by
  unfold storedByte
  split
  · exact ⟨_, rfl⟩
  · dsimp only
    rw [if_neg (by omega), if_neg (by omega)]
    exact ⟨_, rfl⟩

theorem storeTarget_ne_stackCell_of_high (s : State) {addr : Addr} (high : 0x8000 ≤ addr.toNat) (sp : Byte) :
    storeTarget s addr ≠ some (stackCell s sp) := by
  have := sp.isLt
  cases mode : s.cfg.busMode with
  | console => simp (disch := omega) [storeTarget, mode, if_neg]
  | flat64k =>
    simp only [storeTarget, stackCell, mode, ne_eq, Option.some.injEq, Prod.mk.injEq, true_and]
    omega

/-- A word outside the stack, read after stores in the stack alone. -/
theorem loadVector_pc {slots : List Byte} {s t : State} (h : StoredInSlots slots s t) {vec : Addr}
    (high : 0x8000 ≤ vec.toNat ∧ 0x8000 ≤ (vec + 1).toNat) :
    some (loadVector vec (acknowledgeNmi vec t)).regs.pc = storedWord s vec := by
  obtain ⟨lo, low⟩ := storedByte_of_high s high.1
  obtain ⟨hi, next⟩ := storedByte_of_high s high.2
  obtain ⟨-, -, word⟩ := loadVector_spec vec (acknowledgeNmi vec t)
  have kept {addr : Addr} {v : Byte} (above : 0x8000 ≤ addr.toNat) (stored : storedByte s addr = some v) :
      storedByte (acknowledgeNmi vec t) addr = some v :=
    h.storedByte stored fun sp _ => storeTarget_ne_stackCell_of_high s above sp
  rw [word lo hi (kept high.1 low) (kept high.2 next), addrOf_eq_ofNat]
  simp only [storedWord, low, next]

/-! ### The entry -/

section

variable {s u : State} {ret : Addr}

/-- What the entry leaves, from a state whose PC is the return address and that nothing has been stored to reach. -/
theorem entered_enterInterrupt (kind : EntryKind) (before : StoredInSlots [] s u)
    (regs : u.regs = { s.regs with pc := ret }) :
    Entered kind ret (entryVector kind (enterPush kind u).nmiPending) s (enterInterrupt kind u) := by
  have pushed := before.enterPush kind
  have pushedRegs := enterPush_regs kind u
  have stack := stackByte_enterPush kind u
  rw [regs] at pushed pushedRegs stack
  rw [enterInterrupt_eq]
  generalize enterPush kind u = v at pushed pushedRegs stack ⊢
  obtain ⟨stackHigh, stackLow, stackStatus⟩ := stack
  dsimp only
  have pc := loadVector_pc pushed (entryVector_high kind v.nmiPending)
  generalize entryVector kind v.nmiPending = vec at pc ⊢
  obtain ⟨loadedRegs, loaded, -⟩ := loadVector_spec vec (acknowledgeNmi vec v)
  generalize loadVector vec (acknowledgeNmi vec v) = t at pc loadedRegs loaded ⊢
  have bytes : SameBytes v t := (sameBytes_acknowledgeNmi vec v).trans loaded.bytes
  have control : KeptControl v t := (keptControl_acknowledgeNmi vec v).trans loaded.control
  have forward : v.cycles ≤ t.cycles := loaded.clocked.forward
  have count : t.cycles + v.delta = v.cycles + t.delta := loaded.clocked.count
  have onStack (sp : Byte) : stackByte t sp = stackByte v sp := bytes.stackByte control.cfg sp
  have tRegs : t.regs = { v.regs with pc := t.regs.pc } := loadedRegs
  rw [pushedRegs] at tRegs
  exact
    { a := by rw [tRegs]
      x := by rw [tRegs]
      y := by rw [tRegs]
      sp := by rw [tRegs]
      p := by rw [tRegs]
      pc := pc
      pushedHigh := (onStack _).trans stackHigh
      pushedLow := (onStack _).trans stackLow
      pushedStatus := (onStack _).trans stackStatus
      bytes := fun k c high low status => (bytes k c).trans (pushed.bytes k c
        (List.forall_mem_cons.mpr ⟨status, List.forall_mem_cons.mpr ⟨low, List.forall_mem_singleton.mpr high⟩⟩))
      control := pushed.control.trans control
      forward := pushed.clocked.forward.trans forward
      count := by
        have := pushed.clocked.count
        omega }

/-- An entry that takes the NMI vector leaves no NMI pending, where the two vector cycles can raise none. -/
theorem enterInterrupt_nmiPending {kind : EntryKind} {slots : List Byte} (before : StoredInSlots slots s u)
    (unstalled : Unstalled s → Unstalled u) (taken : entryVector kind (enterPush kind u).nmiPending = 0xFFFA#16)
    (noNew : NoNewNmi s (enterInterrupt kind u)) : (enterInterrupt kind u).nmiPending = false := by
  have pushed := before.enterPush kind
  have idle (h : Unstalled s) : Unstalled (acknowledgeNmi 0xFFFA#16 (enterPush kind u)) :=
    { (unstalled h).enterPush kind with }
  simp only [enterInterrupt_eq, taken] at noNew ⊢
  have muted (h : NmiMuted s) : NmiMuted (acknowledgeNmi 0xFFFA#16 (enterPush kind u)) := by
    simpa only [NmiMuted, acknowledgeNmi, pushed.control.cfg, pushed.control.ctrl] using h
  have cleared : (acknowledgeNmi 0xFFFA#16 (enterPush kind u)).nmiPending = false := rfl
  generalize acknowledgeNmi 0xFFFA#16 (enterPush kind u) = v at noNew idle muted cleared ⊢
  rcases noNew with flat | disabled | ⟨stall, bytesLeft, away⟩
  · rw [(muted (.inl flat)).loadVector, cleared]
  · rw [(muted (.inr disabled)).loadVector, cleared]
  · rw [Bool.eq_false_iff]
    intro pending
    obtain ⟨line, low, high⟩ := (idle ⟨stall, bytesLeft⟩).nmiWithin_loadVector cleared 0xFFFA#16 pending
    exact away ⟨line, high⟩

end

/-! ### BRK -/

theorem exec_brk (s : State) : exec .brk s = .next (enterInterrupt .brk (setPc (s.regs.pc + 1) (tick s))) := by
  rw [← (cycled_tick s).regs]
  rfl

/-- Settles O24: BRK is the entry from the state after its padding cycle, with PC past the padding byte
(`entered_enterInterrupt`, `enterInterrupt_nmiPending`). -/
theorem breakInstruction : Obligations.BreakInstruction := by
  unfold Obligations.BreakInstruction
  intro s
  have idle := cycled_tick s
  have padded : StoredInSlots [] s (setPc (s.regs.pc + 1) (tick s)) :=
    ((StoredInSlots.refl s).cycled idle).setRegs _
  have regs : (setPc (s.regs.pc + 1) (tick s)).regs = { s.regs with pc := s.regs.pc + 1 } := by
    rw [setPc, setRegs_regs, idle.regs]
  refine ⟨_, _, exec_brk s, entered_enterInterrupt .brk padded regs, rfl, (padded.enterPush .brk).clocked.nmi,
    fun taken noNew => enterInterrupt_nmiPending padded (fun h => { h.tick with }) ?_ noNew⟩
  rw [taken]
  rfl

end Sys2Proof.Machine
end

section
/-!
SUPPORT. O25 and O26: P as a number both ways, a push after an idle cycle, a pull after two, and the flag instructions
(10_state.md R45 to R48; 45_stack_flags.md R360 to R370).
-/

namespace Sys2Proof.Machine

/-! ### P in numbers -/

theorem Flags.toByte_toNat (p : Flags) : p.toByte.toNat =
    128 * p.n.toNat + 64 * p.v.toNat + 32 + 8 * p.d.toNat + 4 * p.i.toNat + 2 * p.z.toNat + p.c.toNat := by
  simp only [Flags.toByte, toNat_append_eq, BitVec.toNat_ofBool, BitVec.toNat_ofNat]
  omega

theorem Flags.ofByte_eq (b : Byte) : Flags.ofByte b =
    { n := decide (b.toNat / 128 = 1), v := decide (b.toNat / 64 % 2 = 1), d := decide (b.toNat / 8 % 2 = 1)
      i := decide (b.toNat / 4 % 2 = 1), z := decide (b.toNat / 2 % 2 = 1), c := decide (b.toNat % 2 = 1) } := by
  have top : b.toNat / 128 % 2 = b.toNat / 128 := Nat.mod_eq_of_lt (by have := b.isLt; omega)
  simp only [Flags.ofByte, BitVec.getLsbD, Nat.testBit_eq_decide_div_mod_eq, Nat.reducePow, Nat.div_one, top]

/-- The break field of P's byte is 10, so to set it to 11 adds 16 (10_state.md R47). -/
theorem Flags.toByte_or_breakField (p : Flags) : p.toByte ||| 0x30 = BitVec.ofNat 8 (p.toByte.toNat + 16) := by
  obtain ⟨n, v, d, i, z, c⟩ := p
  revert n v d i z c
  decide

/-! ### Pushes and pulls -/

/-- A push after cycles that store nothing stores in the slot S addressed before them. -/
theorem Cycled.stored_push {s t : State} (h : Cycled s t) (v : Byte) :
    Stored (stackAddr s.regs.s) v s (push v t) := by
  obtain ⟨-, pushed, bytes, control, -⟩ := push_spec v t
  rw [stackByte_eq_cellByte, stackCell_eq_of_cfg (control.cfg.trans h.cfg), h.regs] at pushed
  rw [stackCell_eq_of_cfg h.cfg, h.regs] at bytes
  intro k a
  rw [storeTarget_stackAddr]
  split
  next here =>
    rw [Option.some.inj here] at pushed
    exact pushed
  next other => exact (bytes k a fun same => other (congrArg some same.symm)).trans (h.bytes k a)

theorem pushCompletes_of_exec {i : Instr} {value f : Regs → Byte}
    (meaning : ∀ s, exec i s = .next (push (value (tick s).regs) (tick s))) (effect : ∀ r, value r = f r) :
    PushCompletes i f := by
  intro s
  have idle := cycled_tick s
  obtain ⟨regs, -, -, control, clocked⟩ := push_spec (f s.regs) (tick s)
  rw [idle.regs] at regs
  refine ⟨push (f s.regs) (tick s), ?_, regs, idle.stored_push _, idle.control.trans control,
    idle.clocked.trans clocked⟩
  rw [meaning, effect, idle.regs]

/-- An instruction that ticks twice, pulls a byte and then changes the registers by it. -/
theorem completes_of_pull {i : Instr} {op f : Byte → Regs → Regs} {s : State}
    (meaning : exec i s = .next (setRegs (op (pull (tick (tick s))).1) (pull (tick (tick s))).2))
    (effect : ∀ m r, op m r = f m r) :
    Completes i s fun t => Undisturbed s t ∧
      t.regs = f (stackByte s (s.regs.s + 1)) { s.regs with s := s.regs.s + 1 } := by
  have idle : Cycled s (tick (tick s)) := (cycled_tick s).trans (cycled_tick _)
  obtain ⟨value, regs, pulled⟩ := idle.undisturbed.pull
  refine ⟨_, meaning, pulled.trans (undisturbed_setRegs _ _), ?_⟩
  rw [setRegs_regs, effect, value, regs, idle.regs]

/-- Settles O25: P's byte in numbers (`Flags.toByte_toNat`, `Flags.ofByte_eq`), a push after one tick
(`pushCompletes_of_exec`), and a pull after two (`completes_of_pull`). -/
theorem stackInstructions : Obligations.StackInstructions := by
  unfold Obligations.StackInstructions
  refine ⟨Flags.toByte_toNat, Flags.ofByte_eq, ?pha, ?php, fun s => ⟨?pla, ?plp⟩⟩
  case pha => exact pushCompletes_of_exec (value := Regs.a) (fun _ => rfl) fun _ => rfl
  case php =>
    exact pushCompletes_of_exec (value := fun r => r.p.toByte ||| 0x30) (fun _ => rfl)
      fun r => r.p.toByte_or_breakField
  case pla => exact completes_of_pull (op := opLda) rfl opLda_eq
  case plp => exact completes_of_pull (op := fun b r => { r with p := Flags.ofByte b }) rfl fun _ _ => rfl

/-! ### Flag instructions -/

/-- Settles O26: each is one tick and its own change of the registers (`registerCompletes_of_runImplied`). -/
theorem flagInstructions : Obligations.FlagInstructions := by
  unfold Obligations.FlagInstructions
  refine ⟨?clc, ?sec, ?cli, ?sei, ?cld, ?sed, ?clv⟩
  all_goals exact registerCompletes_of_runImplied rfl fun _ => rfl

end Sys2Proof.Machine
end

section
/-!
SUPPORT. O16: the combined undocumented instructions. Each stores a modified byte and goes on with it on A, so its
operation in numbers is composed of the official ones (46_undocumented.md R383 to R388).
-/

namespace Sys2Proof.Machine

/-! ### The combined operations in numbers -/

/-- The combination with A sets N and Z anew, so those of the shifted byte do not stay (R385 to R387). -/
theorem setA_withNZ (v w : Byte) (r : Regs) : setA v (withNZ w r) = setA v r := rfl

/-- The addition sets N and Z anew, so those of the rotated byte do not stay (R388). -/
theorem addRegs_withNZ (m w : Byte) (r : Regs) : addRegs m (withNZ w r) = addRegs m r := rfl

theorem opDcp_eq (m : Byte) (r : Regs) : opDcp m r = (m - 1, { r with p := cmpFlags r.a (m - 1) r.p }) := by
  rw [opDcp, cmp_eq_cmpFlags]

theorem opIsb_eq (m : Byte) (r : Regs) : opIsb m r = (m + 1, subRegs (m + 1) r) := by
  rw [opIsb, opSbc_eq]

theorem opSlo_eq (m : Byte) (r : Regs) :
    opSlo m r = (leftByte false m, setA (r.a ||| leftByte false m) (withC (topBit m) r)) := by
  rw [opSlo, opAsl_eq, opOra_eq, setA_withNZ]
  rfl

theorem opRla_eq (m : Byte) (r : Regs) :
    opRla m r = (leftByte r.p.c m, setA (r.a &&& leftByte r.p.c m) (withC (topBit m) r)) := by
  rw [opRla, opRol_eq, opAnd_eq, setA_withNZ]
  rfl

theorem opSre_eq (m : Byte) (r : Regs) :
    opSre m r = (rightByte false m, setA (r.a ^^^ rightByte false m) (withC (lowBit m) r)) := by
  rw [opSre, opLsr_eq, opEor_eq, setA_withNZ]
  rfl

theorem opRra_eq (m : Byte) (r : Regs) :
    opRra m r = (rightByte r.p.c m, addRegs (rightByte r.p.c m) (withC (lowBit m) r)) := by
  rw [opRra, opRor_eq, opAdc_eq, addRegs_withNZ]

/-! ### The instructions -/

/-- The operation of a combined mnemonic. -/
def combinedOperation : Mnemonic → Option (Byte → Regs → Byte × Regs)
  | .DCP => some opDcp
  | .ISB => some opIsb
  | .SLO => some opSlo
  | .RLA => some opRla
  | .SRE => some opSre
  | .RRA => some opRra
  | _ => none

/-- The seven forms of each combined mnemonic are its operation in the read-modify-write class. -/
theorem modifyClass_of_combinedOperation {i : Instr} {op : Byte → Regs → Byte × Regs}
    (combined : combinedOperation i.mnemonic = some op) : ModifyClass op i := by
  cases i
  case dcpIzx | dcpZp | dcpAbs | dcpIzy | dcpZpx | dcpAby | dcpAbx | isbIzx | isbZp | isbAbs | isbIzy | isbZpx | isbAby
      | isbAbx | sloIzx | sloZp | sloAbs | sloIzy | sloZpx | sloAby | sloAbx | rlaIzx | rlaZp | rlaAbs | rlaIzy | rlaZpx
      | rlaAby | rlaAbx | sreIzx | sreZp | sreAbs | sreIzy | sreZpx | sreAby | sreAbx | rraIzx | rraZp | rraAbs | rraIzy
      | rraZpx | rraAby | rraAbx =>
    cases combined
    exact ⟨_, rfl, rfl⟩
  all_goals cases combined

theorem modifyCompletes_of_combinedOperation {i : Instr} {name : Mnemonic} {op : Byte → Regs → Byte × Regs}
    {f : Byte → Regs → Byte} {g : Byte → Regs → Regs} (combined : combinedOperation name = some op)
    (effect : ∀ m r, op m r = (f m r, g m r)) (named : i.mnemonic = name) : ModifyCompletes i f g :=
  (modifyClass_of_combinedOperation (named ▸ combined)).modifyCompletes effect

/-- Settles O16: each combined operation in numbers, run in the read-modify-write sequence; RRA adds with the carry its
rotate moved out (`opRra_eq`). -/
theorem combinedInstructions : Obligations.CombinedInstructions := by
  unfold Obligations.CombinedInstructions
  intro i
  refine ⟨?dcp, ?isb, ?slo, ?rla, ?sre, ?rra⟩
  case dcp => exact modifyCompletes_of_combinedOperation rfl opDcp_eq
  case isb => exact modifyCompletes_of_combinedOperation rfl opIsb_eq
  case slo => exact modifyCompletes_of_combinedOperation rfl opSlo_eq
  case rla => exact modifyCompletes_of_combinedOperation rfl opRla_eq
  case sre => exact modifyCompletes_of_combinedOperation rfl opSre_eq
  case rra => exact modifyCompletes_of_combinedOperation rfl opRra_eq

end Sys2Proof.Machine
end

section
/-!
SUPPORT. O35: taking an IRQ or an NMI is the interrupt entry that BRK shares, from the state of the interrupt check
(60_exceptions.md R420 to R423).
-/

namespace Sys2Proof.Machine

/-- The entry vector in one condition: the NMI's own, or the one a pending NMI takes over (60_exceptions.md R423). -/
theorem entryVector_eq (kind : EntryKind) (pending : Bool) :
    entryVector kind pending = if kind = .nmi ∨ pending = true then 0xFFFA#16 else 0xFFFE#16 := by
  cases kind <;> cases pending <;> rfl

/-- The entry that returns to PC. -/
theorem entered_pc (kind : EntryKind) (s : State) :
    Entered kind s.regs.pc (entryVector kind (enterPush kind s).nmiPending) s (enterInterrupt kind s) :=
  entered_enterInterrupt kind (.refl s) rfl

/-- Settles O35: the check's `Enter(kind)` is the entry of `entered_enterInterrupt`, which takes the pending NMI where
its vector is the NMI's (`enterInterrupt_nmiPending`). -/
theorem interruptEntry : Obligations.InterruptEntry := by
  unfold Obligations.InterruptEntry
  intro kind s other
  have entered := entered_pc kind s
  rw [entryVector_eq] at entered
  refine ⟨enterInterrupt kind s, rfl, entered, fun taken noNew => ?taken,
    ((StoredInSlots.refl s).enterPush kind).clocked.nmi, ?field⟩
  case taken =>
    have vector : entryVector kind (enterPush kind s).nmiPending = 0xFFFA#16 := by rw [entryVector_eq, if_pos taken]
    exact enterInterrupt_nmiPending (.refl s) id vector noNew
  case field =>
    cases kind with
    | brk => exact absurd rfl other
    | irq => rfl
    | nmi => rfl

end Sys2Proof.Machine
end

section
/-!
SUPPORT. O30: what a step answers. An operation keeps the fault, and marks a stall as endless only where one can be
(log entry 6); so a step settles in a state with no fault, or a slot just fetched raises its own.
-/

namespace Sys2Proof.Machine

/-! ### What can stop a core -/

/-- The parameters and the fault are kept, and so is the mark of an endless stall where no stall is endless (log entry
6). -/
structure KeptStops (s t : State) : Prop where
  cfg : t.cfg = s.cfg := by rfl
  fault : t.fault = s.fault := by rfl
  hung : s.cfg.dmcStallCycles < 400 → t.hung = s.hung := by exact fun _ => rfl

theorem KeptControl.stops {s t : State} (h : KeptControl s t) : KeptStops s t := ⟨h.cfg, h.fault, h.hung⟩

theorem KeptRun.stops {s t : State} (h : KeptRun s t) : KeptStops s t := ⟨h.cfg, h.fault, h.hung⟩

namespace KeptStops

variable {s t u : State}

theorem trans (h : KeptStops s t) (k : KeptStops t u) : KeptStops s u :=
  ⟨k.cfg.trans h.cfg, k.fault.trans h.fault, fun few => (k.hung (h.cfg ▸ few)).trans (h.hung few)⟩

theorem cycled (h : KeptStops s t) (k : Cycled t u) : KeptStops s u := h.trans k.control.stops

theorem setRegs (h : KeptStops s t) (f : Regs → Regs) : KeptStops s (setRegs f t) := h.trans {}

theorem memWrite (h : KeptStops s t) (addr : Addr) (v : Byte) : KeptStops s (memWrite addr v t) := by
  obtain ⟨-, -, -, run, -⟩ := stored_memWrite addr v t
  exact h.trans run.stops

theorem push (h : KeptStops s t) (v : Byte) : KeptStops s (push v t) := (h.memWrite _ v).setRegs _

theorem pull (h : KeptStops s t) : KeptStops s (pull t).2 := (h.setRegs _).cycled (cycled_pull t)

theorem enterInterrupt (h : KeptStops s t) (kind : EntryKind) : KeptStops s (enterInterrupt kind t) :=
  h.trans (entered_pc kind t).control.stops

end KeptStops

/-! ### The end of a step -/

theorem keptStops_takeInterrupt (kind : EntryKind) (s : State) : KeptStops s (takeInterrupt kind s) :=
  (KeptStops.enterInterrupt {} kind).trans {}

theorem keptStops_interruptCheck (m : Mnemonic) (s : State) : KeptStops s (interruptCheck m s) := by
  have polled : KeptStops s { s with prevCli := m == .CLI } := {}
  unfold interruptCheck
  dsimp only
  split
  · exact {}
  split
  · exact polled.trans (keptStops_takeInterrupt .nmi _)
  split
  · exact polled.trans (keptStops_takeInterrupt .irq _)
  · exact polled

theorem keptStops_oamDmaLoop (page : Byte) (k : Nat) (s : State) : KeptStops s (oamDmaLoop page k s) := by
  induction k generalizing s with
  | zero => exact {}
  | succ k ih => exact ((cycled_memRead _ s).control.stops.memWrite _ _).trans (ih _)

theorem keptStops_runOamDma (s : State) : KeptStops s (runOamDma s) := by
  unfold runOamDma
  split
  next page _ =>
    have requested : KeptStops s { s with oamDmaPage := none } := {}
    have halt := requested.cycled (cycled_tick _)
    unfold oamDma
    dsimp only
    split
    · exact (halt.cycled (cycled_tick _)).trans (keptStops_oamDmaLoop page 256 _)
    · exact halt.trans (keptStops_oamDmaLoop page 256 _)
  next => exact {}

theorem KeptStops.finishStep {s t : State} (h : KeptStops s t) (m : Mnemonic) (iBefore : Bool) :
    KeptStops s (finishStep m iBefore t) := by
  have transferred : KeptStops s (pollFlag m iBefore (runOamDma t)) := (h.trans (keptStops_runOamDma t)).trans {}
  unfold Machine.finishStep
  split
  · exact h
  · exact transferred.trans (keptStops_interruptCheck m _)

/-! ### The instruction -/

/-- The outcome is a next state with what can stop a core kept, or the fault of a slot. -/
inductive Answers (s : State) : Host.Outcome State Fault Refusal → Prop
  | next {t : State} (kept : KeptStops s t) : Answers s (.next t)
  | fault : Answers s (raiseUnimplemented s)

theorem Meaning.answers {run : State → Host.Outcome State Fault Refusal} (meaning : Meaning run) (s : State) :
    Answers s (run s) := by
  have start : KeptStops s s := {}
  have idle := start.cycled (cycled_tick s)
  have idle2 := idle.cycled (cycled_tick _)
  induction meaning with
  | immediate op m => exact .next (start.setRegs _)
  | read op m => exact .next ((start.cycled (cycled_readOperand m s)).setRegs _)
  | write value m => exact .next ((start.cycled (cycled_effectiveAddress .write m s)).memWrite _ _)
  | modify op m =>
    obtain ⟨next, -, -, -, run, -⟩ := runModify_spec op m s
    rw [next]
    exact .next run.stops
  | accumulator op => exact .next (idle.setRegs _)
  | implied op => exact .next (idle.setRegs _)
  | branch condition off =>
    refine .next ?_
    split
    · exact (takeBranch_spec off s).2.control.stops
    · exact start
  | optional meaning ih =>
    unfold runOptional
    split
    · exact ih
    · exact .fault
  | slot => exact .fault
  | nop => exact .next idle
  | jam => exact .next {}
  | jmpAbs addr => exact .next (start.setRegs _)
  | jmpInd addr => exact .next ((start.cycled (cycled_indirectTarget addr s)).setRegs _)
  | jsr addr =>
    unfold execJsrAbs jumpSubroutine
    exact .next ((((idle.push _).push _).cycled (cycled_memRead _ _)).setRegs _)
  | rts => exact .next ((idle2.pull.pull.cycled (cycled_tick _)).setRegs _)
  | rti =>
    unfold execRti returnFromInterrupt
    exact .next ((idle2.pull.setRegs _).pull.pull.setRegs _)
  | brk => exact .next ((idle.setRegs _).enterInterrupt .brk)
  | pha => exact .next (idle.push _)
  | php => exact .next (idle.push _)
  | pla => exact .next (idle2.pull.setRegs _)
  | plp => exact .next (idle2.pull.setRegs _)

/-- Of the 256 instructions only a slot can answer no next state (46_undocumented.md R391). -/
theorem exists_next_of_not_slot {i : Instr} {s : State} (implemented : i.isSlot s.cfg = false) :
    ∃ t, exec i s = .next t := by
  cases i
  case xaaImm | lxaImm | shaIzy | shaAby | shxAby | shyAbx | tasAby => cases implemented
  case ancImm0B | ancImm2B | alrImm | arrImm | sbxImm | lasAby =>
    have extra : (!s.cfg.extraUnofficial) = false := implemented
    exact ⟨_, if_pos (by simpa using extra)⟩
  all_goals exact ⟨_, rfl⟩

theorem isSlot_of_raised {i : Instr} {s : State} (raised : exec i s = raiseUnimplemented s) :
    i.isSlot s.cfg = true := by
  by_contra implemented
  obtain ⟨t, next⟩ := exists_next_of_not_slot (Bool.eq_false_iff.mpr implemented)
  cases next.symm.trans raised

/-! ### The fetch -/

theorem mnemonic_opcodeCell_instr (op b1 b2 : Byte) :
    ((opcodeCell op).instr b1 b2).mnemonic = ((opcodeCell op).instr 0 0).mnemonic := by
  rw [← mnemonic_opcodeCell, opcode_opcodeCell_instr]

/-- A fetch is some byte fetches, of a slot the opcode's alone (log entry 8). -/
theorem fetched_fetchInstr (s : State) :
    ∃ n, Fetched n s (fetchInstr s).2 ∧ ((fetchInstr s).1.isSlot s.cfg = true → n = 1) := by
  have one := (fetched_zero s).fetchByte
  have sameSlot (b1 b2 : Byte) := isSlot_eq_of_mnemonic s.cfg (mnemonic_opcodeCell_instr (fetchByte s).1 b1 b2)
  cases cell : opcodeCell (fetchByte s).1 with
  | f1 i =>
    rw [fetchInstr_of_f1 cell]
    exact ⟨1, one, fun _ => rfl⟩
  | f2 f =>
    rw [cell] at sameSlot
    rw [fetchInstr_of_f2 cell]
    dsimp only
    split
    · exact ⟨1, one, fun _ => rfl⟩
    next other => exact ⟨2, one.fetchByte, fun slot => absurd ((sameSlot _ 0).symm.trans slot) other⟩
  | f3 f =>
    rw [cell] at sameSlot
    rw [fetchInstr_of_f3 cell]
    dsimp only
    split
    · exact ⟨1, one, fun _ => rfl⟩
    next other =>
      split
      · exact ⟨2, one.fetchByte, fun slot => absurd ((sameSlot _ _).symm.trans slot) other⟩
      · exact ⟨3, one.fetchByte.fetchByte, fun slot => absurd ((sameSlot _ _).symm.trans slot) other⟩

/-! ### The step -/

/-- A step of a core with no fault settles in a state that keeps what can stop a core, or is the fault of the slot
whose opcode it has fetched. -/
theorem step_settles_or_raises {s : State} (running : s.fault = none) :
    (∃ t, step s = settle t ∧ KeptStops s t) ∨
      ∃ u, step s = raiseUnimplemented u ∧ Fetched 1 { s with delta := 0 } u ∧ s.trapped = false ∧
        (fetchInstr { s with delta := 0 }).1.isSlot s.cfg = true := by
  have start : KeptStops s { s with delta := 0 } := {}
  by_cases trapped : s.trapped = true
  · exact .inl ⟨_, step_of_trapped running trapped, start.cycled (cycled_tick _)⟩
  · obtain ⟨n, fetched, ofSlot⟩ := fetched_fetchInstr { s with delta := 0 }
    unfold step
    split
    next faulted => cases running.symm.trans faulted
    next =>
      dsimp only
      rw [if_neg trapped]
      generalize fetchInstr { s with delta := 0 } = f at fetched ofSlot ⊢
      have kept := start.trans fetched.undisturbed.control.stops
      split
      next hung => exact .inl ⟨f.2, (settle_endless hung).symm, kept⟩
      next =>
        have answers := (exec_meaning f.1).answers f.2
        generalize outcome : exec f.1 f.2 = o at answers ⊢
        cases answers with
        | next executed => exact .inl ⟨_, rfl, (kept.trans executed).finishStep _ _⟩
        | fault =>
          have slot : f.1.isSlot s.cfg = true := kept.cfg ▸ isSlot_of_raised outcome
          obtain rfl := ofSlot slot
          exact .inr ⟨f.2, rfl, fetched, Bool.eq_false_iff.mpr trapped, slot⟩

/-- Settles O30: a step settles with the fault kept and no stall marked but where one can be endless, or raises the
fault of the slot just fetched (`step_settles_or_raises`). -/
theorem stepOutcomes : Obligations.StepOutcomes := by
  unfold Obligations.StepOutcomes
  intro s running
  obtain ⟨t, settled, kept⟩ | ⟨u, raised, fetched, awake, slot⟩ := step_settles_or_raises running
  · rw [settled]
    cases hung : t.hung with
    | false =>
      rw [settle_next.mpr ⟨hung, rfl⟩]
      exact ⟨kept.fault.trans running, hung⟩
    | true =>
      rw [settle_endless hung]
      refine ⟨hung, ?_⟩
      rcases Nat.lt_or_ge s.cfg.dmcStallCycles 400 with few | many
      · exact .inl ((kept.hung few).symm.trans hung)
      · exact .inr many
  · obtain ⟨regs, undisturbed, -⟩ := fetched
    rw [raised]
    exact ⟨rfl, regs, undisturbed.bytes, undisturbed.control.trapped.trans awake, slot⟩

end Sys2Proof.Machine
end

section
/-!
SUPPORT. O18, O19 and O27: the optional undocumented instructions in numbers, the unimplemented slots, and JAM
(46_undocumented.md R390 to R402).
-/

namespace Sys2Proof.Machine

/-! ### The optional instructions -/

theorem opAnc_eq (m : Byte) (r : Regs) : opAnc m r = setA (r.a &&& m) (withC (topBit (r.a &&& m)) r) := by
  rw [opAnc, setNZ_eq_nz, getLsbD_seven_eq_topBit]
  rfl

theorem opAlr_eq (m : Byte) (r : Regs) :
    opAlr m r = setA (rightByte false (r.a &&& m)) (withC (lowBit (r.a &&& m)) r) := by
  rw [opAlr, lsrByte_eq, setNZ_eq_nz, getLsbD_zero_eq_lowBit]
  rfl

theorem opArr_eq (m : Byte) (r : Regs) : opArr m r = { r with
    a := rightByte r.p.c (r.a &&& m)
    p := nz (rightByte r.p.c (r.a &&& m)) { r.p with
      c := (rightByte r.p.c (r.a &&& m)).getLsbD 6
      v := ((rightByte r.p.c (r.a &&& m)).getLsbD 6 != (rightByte r.p.c (r.a &&& m)).getLsbD 5) } } := by
  simp only [opArr, rorByte_eq, setNZ_eq_nz]

theorem opSbx_eq (m : Byte) (r : Regs) :
    opSbx m r = { r with x := (r.a &&& r.x) - m, p := cmpFlags (r.a &&& r.x) m r.p } := by
  rw [opSbx, cmp_eq_cmpFlags]

theorem opLas_eq (m : Byte) (r : Regs) :
    opLas m r = { r with a := m &&& r.s, x := m &&& r.s, s := m &&& r.s, p := nz (m &&& r.s) r.p } := by
  rw [opLas, setNZ_eq_nz]

theorem runOptional_of_extra {run : State → Host.Outcome State Fault Refusal} {s : State}
    (extra : s.cfg.extraUnofficial = true) : runOptional run s = run s := if_pos extra

/-- Settles O18: with the parameter each optional opcode is its operation, given in numbers, on its immediate byte or
on the byte of LAS's operand read. -/
theorem optionalInstructions : Obligations.OptionalInstructions := by
  unfold Obligations.OptionalInstructions
  intro s extra
  have immediate {i : Instr} {m : Byte} {op : Byte → Regs → Regs}
      (meaning : exec i s = runOptional (runImmediate op m) s) : exec i s = .next { s with regs := op m s.regs } :=
    meaning.trans (runOptional_of_extra extra)
  refine ⟨fun i m anc => ?anc, fun m => ?alr, fun m => ?arr, fun m => ?sbx, fun w => ?las⟩
  case anc =>
    rw [← opAnc_eq]
    simp only [List.mem_cons, List.not_mem_nil, or_false] at anc
    obtain rfl | rfl := anc
    · exact immediate rfl
    · exact immediate rfl
  case alr => exact (immediate (op := opAlr) rfl).trans (by rw [opAlr_eq])
  case arr => exact (immediate (op := opArr) rfl).trans (by rw [opArr_eq])
  case sbx => exact (immediate (op := opSbx) rfl).trans (by rw [opSbx_eq])
  case las =>
    have run := runRead_spec opLas (.aby w) s
    simp only [opLas_eq] at run
    refine ⟨readOperand (.aby w) s, rfl, ?_, run.2⟩
    exact (runOptional_of_extra extra).trans run.1

/-! ### The slots -/

/-- An unimplemented slot raises its fault and nothing else (46_undocumented.md R391). -/
theorem exec_of_isSlot {i : Instr} {s : State} (slot : i.isSlot s.cfg = true) : exec i s = raiseUnimplemented s := by
  cases i
  case xaaImm | lxaImm | shaIzy | shaAby | shxAby | shyAbx | tasAby => rfl
  case ancImm0B | ancImm2B | alrImm | arrImm | sbxImm | lasAby =>
    have noExtra : (!s.cfg.extraUnofficial) = true := slot
    exact if_neg (by simpa using noExtra)
  all_goals cases slot

theorem unstable_eq_false_of_optional {i : Instr} (optional : i.optional = true) : i.unstable = false := by
  simp only [Instr.optional, Bool.or_eq_true, beq_iff_eq] at optional
  obtain (((h | h) | h) | h) | h := optional <;> simp [Instr.unstable, h]

/-- Settles O19: the slots by `exec_of_isSlot`, every other instruction by `exists_next_of_not_slot`. -/
theorem unimplementedSlots : Obligations.UnimplementedSlots := by
  unfold Obligations.UnimplementedSlots
  intro i s
  refine ⟨fun unstable => ?_, fun optional => ?_, ?_⟩
  · simp only [Instr.isSlot, unstable, Bool.true_or]
  · simp only [Instr.isSlot, unstable_eq_false_of_optional optional, optional, Bool.true_and, Bool.false_or]
  · split
    next slot => exact exec_of_isSlot slot
    next implemented => exact exists_next_of_not_slot (Bool.eq_false_iff.mpr implemented)

/-! ### JAM -/

theorem exec_of_jam {i : Instr} (jam : i.mnemonic = .JAM) (s : State) : exec i s = .next (trapCpu s) := by
  cases i
  case jam02 | jam12 | jam22 | jam32 | jam42 | jam52 | jam62 | jam72 | jam92 | jamB2 | jamD2 | jamF2 => rfl
  all_goals cases jam

/-- Settles O27: every JAM is `trapCpu`, and the end of a step does nothing after the mnemonic. -/
theorem jamInstructions : Obligations.JamInstructions := by
  unfold Obligations.JamInstructions
  exact fun i jam s => ⟨exec_of_jam jam s, fun _ => if_pos jam⟩

end Sys2Proof.Machine
end

section
/-!
SUPPORT. O36: the interrupt check at the end of a step, branch by branch (60_exceptions.md R410 to R418).
-/

namespace Sys2Proof.Machine

theorem finishStep_of_not_jam {m : Mnemonic} (other : m ≠ .JAM) (iBefore : Bool) (s : State) :
    finishStep m iBefore s = interruptCheck m (pollFlag m iBefore (runOamDma s)) := if_neg other

/-- The polled I is the one from before the instruction for the mnemonics of LATE_I_SET (60_exceptions.md R414). -/
theorem pollFlag_eq (m : Mnemonic) (iBefore : Bool) (s : State) :
    pollFlag m iBefore s = { s with iPoll := if m ∈ s.cfg.lateISet then iBefore else s.regs.p.i } := by
  simp only [pollFlag, List.contains_iff_mem]

/-- The check from the state of its poll: `u` is that state with CLI remembered (60_exceptions.md R413, R415). -/
theorem interruptCheck_eq (m : Mnemonic) (s : State) :
    interruptCheck m s =
      let u := { s with prevCli := decide (m = .CLI) }
      if m = .BRK then u
      else if s.nmiPending = true then takeInterrupt .nmi u
      else if irqLine s = true ∧ s.iPoll = false ∧ ¬(m = .RTI ∧ s.prevCli = true) then takeInterrupt .irq u
      else u := by
  have cli : (m == .CLI) = decide (m = .CLI) := by rw [Bool.eq_iff_iff]; simp
  have line : irqLine { s with prevCli := decide (m = .CLI) } = irqLine s := rfl
  have suppressed : (irqLine s && !s.iPoll && !(m == .RTI && s.prevCli)) = true ↔
      irqLine s = true ∧ s.iPoll = false ∧ ¬(m = .RTI ∧ s.prevCli = true) := by
    simp [and_assoc, imp_iff_not_or]
  unfold interruptCheck
  split
  next brk =>
    subst brk
    rfl
  next => simp only [cli, line, suppressed]

/-- Settles O36: the end of a step is the check from the poll's state. -/
theorem interruptSelection : Obligations.InterruptSelection := by
  unfold Obligations.InterruptSelection
  intro m iBefore s other d poll u
  rw [finishStep_of_not_jam other, interruptCheck_eq, pollFlag_eq]
  rfl

end Sys2Proof.Machine
end

section
/-!
SUPPORT. O50: the scroll increments and the copies of v as a row of bit fields, whose numbers follow
(61_ppu.md R485, R486).
-/

namespace Sys2Proof.Machine

/-! ### The masks of R485 and R486 as fields, bit by bit -/

/-- Coarse X cleared, bit 10 toggled. -/
theorem clearCoarseX_toggle_eq_append (v : BitVec 15) : (v &&& 0x7FE0#15) ^^^ 0x0400#15 =
    v.extractLsb' 11 4 ++ ~~~v.extractLsb' 10 1 ++ v.extractLsb' 5 5 ++ 0#5 := by
  apply BitVec.eq_of_getLsbD_eq
  intro i hi
  simp only [BitVec.getLsbD_and, BitVec.getLsbD_xor, BitVec.getLsbD_append, BitVec.getLsbD_not,
    BitVec.getLsbD_extractLsb']
  interval_cases i <;> simp

/-- Fine Y and coarse Y cleared. -/
theorem clearY_eq_append (v : BitVec 15) : v &&& 0x0C1F#15 =
    0#3 ++ v.extractLsb' 10 2 ++ 0#5 ++ v.extractLsb' 0 5 := by
  apply BitVec.eq_of_getLsbD_eq
  intro i hi
  simp only [BitVec.getLsbD_and, BitVec.getLsbD_append, BitVec.getLsbD_extractLsb']
  interval_cases i <;> simp

/-- Fine Y and coarse Y cleared, bit 11 toggled. -/
theorem clearY_toggle_eq_append (v : BitVec 15) : (v &&& 0x0C1F#15) ^^^ 0x0800#15 =
    0#3 ++ ~~~v.extractLsb' 11 1 ++ v.extractLsb' 10 1 ++ 0#5 ++ v.extractLsb' 0 5 := by
  apply BitVec.eq_of_getLsbD_eq
  intro i hi
  simp only [BitVec.getLsbD_and, BitVec.getLsbD_xor, BitVec.getLsbD_append, BitVec.getLsbD_not,
    BitVec.getLsbD_extractLsb']
  interval_cases i <;> simp

theorem clearFineY_eq_append (v : BitVec 15) : v &&& 0x0FFF#15 = 0#3 ++ v.extractLsb' 0 12 := by
  apply BitVec.eq_of_getLsbD_eq
  intro i hi
  simp only [BitVec.getLsbD_and, BitVec.getLsbD_append, BitVec.getLsbD_extractLsb']
  interval_cases i <;> simp

theorem copyX_eq_append (v t : BitVec 15) : copyX v t =
    v.extractLsb' 11 4 ++ t.extractLsb' 10 1 ++ v.extractLsb' 5 5 ++ t.extractLsb' 0 5 := by
  apply BitVec.eq_of_getLsbD_eq
  intro i hi
  simp only [copyX, BitVec.getLsbD_and, BitVec.getLsbD_or, BitVec.getLsbD_append, BitVec.getLsbD_extractLsb']
  interval_cases i <;> simp

theorem copyY_eq_append (v t : BitVec 15) : copyY v t =
    t.extractLsb' 11 4 ++ v.extractLsb' 10 1 ++ t.extractLsb' 5 5 ++ v.extractLsb' 0 5 := by
  apply BitVec.eq_of_getLsbD_eq
  intro i hi
  simp only [copyY, BitVec.getLsbD_and, BitVec.getLsbD_or, BitVec.getLsbD_append, BitVec.getLsbD_extractLsb']
  interval_cases i <;> simp

/-! ### In numbers -/

/-- A field in numbers. -/
theorem extractLsb'_toNat_div {w : Nat} (v : BitVec w) (k n : Nat) :
    (v.extractLsb' k n).toNat = v.toNat / 2 ^ k % 2 ^ n := by
  rw [BitVec.extractLsb'_toNat, Nat.shiftRight_eq_div_pow]

theorem not_toNat_one (b : BitVec 1) : (~~~b).toNat = 1 - b.toNat := by
  rw [BitVec.toNat_not]

theorem incX_toNat (v : BitVec 15) : (incX v).toNat = if v.toNat % 32 = 31 then
    v.toNat / 2048 * 2048 + (1 - v.toNat / 1024 % 2) * 1024 + v.toNat / 32 % 32 * 32 else v.toNat + 1 := by
  have := v.isLt
  unfold incX coarseX
  split
  · rw [clearCoarseX_toggle_eq_append]
    simp only [toNat_append_eq, not_toNat_one, extractLsb'_toNat_div, BitVec.toNat_ofNat]
    omega
  · rw [BitVec.toNat_add, show (1 : BitVec 15).toNat = 1 from rfl]
    omega

theorem incY_toNat (v : BitVec 15) : (incY v).toNat =
    if v.toNat / 4096 < 7 then v.toNat + 4096
    else if v.toNat / 32 % 32 = 29 then
      (1 - v.toNat / 2048 % 2) * 2048 + v.toNat / 1024 % 2 * 1024 + v.toNat % 32
    else if v.toNat / 32 % 32 = 31 then v.toNat / 1024 % 4 * 1024 + v.toNat % 32
    else v.toNat % 4096 + 32 := by
  have := v.isLt
  have fine : fineY v = v.toNat / 4096 := by unfold fineY; omega
  unfold incY coarseY
  rw [fine]
  split
  · simp only [BitVec.toNat_add, BitVec.toNat_ofNat]
    omega
  split
  · rw [clearY_toggle_eq_append]
    simp only [toNat_append_eq, not_toNat_one, extractLsb'_toNat_div, BitVec.toNat_ofNat]
    omega
  split
  · rw [clearY_eq_append]
    simp only [toNat_append_eq, extractLsb'_toNat_div, BitVec.toNat_ofNat]
    omega
  · rw [clearFineY_eq_append]
    simp only [BitVec.toNat_add, toNat_append_eq, extractLsb'_toNat_div, BitVec.toNat_ofNat]
    omega

theorem copyX_toNat (v t : BitVec 15) : (copyX v t).toNat =
    v.toNat / 2048 * 2048 + t.toNat / 1024 % 2 * 1024 + v.toNat / 32 % 32 * 32 + t.toNat % 32 := by
  have := v.isLt
  rw [copyX_eq_append]
  simp only [toNat_append_eq, extractLsb'_toNat_div]
  omega

theorem copyY_toNat (v t : BitVec 15) : (copyY v t).toNat =
    t.toNat / 2048 * 2048 + v.toNat / 1024 % 2 * 1024 + t.toNat / 32 % 32 * 32 + v.toNat % 32 := by
  have := t.isLt
  rw [copyY_eq_append]
  simp only [toNat_append_eq, extractLsb'_toNat_div]
  omega

/-- Settles O50: the fields of the numbers of the four operations. -/
theorem scrollIncrements : Obligations.ScrollIncrements := by
  unfold Obligations.ScrollIncrements
  intro v t
  have := v.isLt
  have := t.isLt
  refine ⟨?_, ?_, ?_, ?_⟩
  · rw [incX_toNat]
    split_ifs <;> omega
  · rw [incY_toNat]
    split_ifs <;> omega
  · rw [copyX_toNat]
    omega
  · rw [copyY_toNat]
    omega

end Sys2Proof.Machine
end

section
/-!
SUPPORT. O5 and O51: the stages of one dot (61_ppu.md R470). Each stage changes fields of its own, so what a dot does to
a field is what the field's stage does, from the state before the dot.
-/

namespace Sys2Proof.Machine

/-! ### The fields of each stage -/

theorem Ppu.flagEvents_frame (p : Ppu) : ∃ vblank hit overflow event,
    p.flagEvents = { p with vblank := vblank, sprite0Hit := hit, spriteOverflow := overflow, vblEvent := event } := by
  unfold Ppu.flagEvents
  split
  · split
    · exact ⟨_, _, _, _, rfl⟩
    · split <;> exact ⟨_, _, _, _, rfl⟩
  · exact ⟨_, _, _, _, rfl⟩

theorem Ppu.spriteStep_frame (cfg : Params) (c : Cart) (p : Ppu) : ∃ spr zero overflow addr,
    p.spriteStep cfg c = { p with spr := spr, spr0OnLine := zero, spriteOverflow := overflow, oamaddr := addr } := by
  have clear (q : Ppu) : ∃ addr, (if 257 ≤ q.dot ∧ q.dot ≤ 320 then { q with oamaddr := 0 } else q) =
      { q with oamaddr := addr } := by
    split <;> exact ⟨_, rfl⟩
  unfold Ppu.spriteStep
  split
  · obtain ⟨addr, cleared⟩ := clear (if p.dot = 257 ∧ cfg.sprites = .full then
      if p.scanline < 240 then p.evaluateSprites c else { p with spr := [], spr0OnLine := false } else p)
    refine cleared ▸ ?_
    split
    · split <;> exact ⟨_, _, _, _, rfl⟩
    · exact ⟨_, _, _, _, rfl⟩
  · exact ⟨_, _, _, _, rfl⟩

theorem Ppu.pixelStep_frame (cfg : Params) (p : Ppu) : ∃ hit frame,
    p.pixelStep cfg = { p with sprite0Hit := hit, frame := frame } := by
  unfold Ppu.pixelStep
  split <;> exact ⟨_, _, rfl⟩

theorem Ppu.advance_frame (p : Ppu) : ∃ dot line odd,
    p.advance = { p with dot := dot, scanline := line, odd := odd } := by
  unfold Ppu.advance
  split
  · exact ⟨_, _, _, rfl⟩
  · split
    · split <;> exact ⟨_, _, _, rfl⟩
    · exact ⟨_, _, _, rfl⟩

/-- After the background's stage a dot changes only the sprites' and the pixel's fields and the counters. -/
theorem Ppu.dotStep_frame (cfg : Params) (c : Cart) (p : Ppu) : ∃ spr zero overflow addr hit frame dot line odd,
    p.dotStep cfg c = { p.flagEvents.background c with
      spr := spr, spr0OnLine := zero, spriteOverflow := overflow, oamaddr := addr, sprite0Hit := hit, frame := frame
      dot := dot, scanline := line, odd := odd } := by
  unfold Ppu.dotStep
  obtain ⟨_, _, _, _, sprites⟩ := Ppu.spriteStep_frame cfg c (p.flagEvents.background c)
  rw [sprites]
  obtain ⟨_, _, pixel⟩ := Ppu.pixelStep_frame cfg { p.flagEvents.background c with
    spr := _, spr0OnLine := _, spriteOverflow := _, oamaddr := _ }
  rw [pixel]
  obtain ⟨_, _, _, advance⟩ := Ppu.advance_frame { p.flagEvents.background c with
    spr := _, spr0OnLine := _, spriteOverflow := _, oamaddr := _, sprite0Hit := _, frame := _ }
  exact ⟨_, _, _, _, _, _, _, _, _, advance⟩

/-! ### The background's stage, dot by dot -/

theorem pipelineDot_iff (p : Ppu) :
    pipelineDot p = true ↔ p.rendering = true ∧ (p.scanline < 240 ∨ p.scanline = 261) := by
  simp [pipelineDot]

/-- What the background's stage leaves, by the place of the dot in the line (61_ppu.md R480). -/
inductive BackgroundDot (c : Cart) (p : Ppu) : Ppu → Prop
  /-- no pipeline at this dot -/
  | idle (off : pipelineDot p = false) : BackgroundDot c p p
  /-- a dot of the tile windows, but for the three below -/
  | tile (on : pipelineDot p = true) (window : (2 ≤ p.dot ∧ p.dot ≤ 255) ∨ (322 ≤ p.dot ∧ p.dot ≤ 337)) :
      BackgroundDot c p (p.shift.tileStep c)
  /-- the first dot of the next line's tiles, which does not shift -/
  | nextLine (on : pipelineDot p = true) (dot : p.dot = 321) : BackgroundDot c p (p.tileStep c)
  /-- the last dot of the line's tiles -/
  | incrementY (on : pipelineDot p = true) (dot : p.dot = 256) :
      BackgroundDot c p { p.shift.tileStep c with v := incY (p.shift.tileStep c).v }
  /-- the dot after the line's tiles -/
  | copyHorizontal (on : pipelineDot p = true) (dot : p.dot = 257) :
      BackgroundDot c p { (p.shift.tileStep c).reload with
        v := copyX (p.shift.tileStep c).v (p.shift.tileStep c).t }
  /-- the two unused nametable fetches -/
  | unused (on : pipelineDot p = true) (dot : p.dot = 338 ∨ p.dot = 340) :
      BackgroundDot c p { p with bgNt := p.read c (ntAddr p.v) }
  /-- the vertical copies of the pre-render line -/
  | copyVertical (on : pipelineDot p = true) (line : p.scanline = 261) (window : 280 ≤ p.dot ∧ p.dot ≤ 304) :
      BackgroundDot c p { p with v := copyY p.v p.t }
  /-- no work at this dot -/
  | rest (on : pipelineDot p = true) (outside : p.dot < 2 ∨ (258 ≤ p.dot ∧ p.dot ≤ 320) ∨ p.dot = 339 ∨ 341 ≤ p.dot)
      (noCopy : ¬(p.scanline = 261 ∧ 280 ≤ p.dot ∧ p.dot ≤ 304)) : BackgroundDot c p p

theorem backgroundDot_background (c : Cart) (p : Ppu) : BackgroundDot c p (p.background c) := by
  cases on : pipelineDot p with
  | false =>
    have off : p.background c = p := if_neg fun work => by simp [(pipelineDot_iff p).mpr work] at on
    exact off.symm ▸ .idle on
  | true =>
    have work := (pipelineDot_iff p).mp on
    by_cases dot : p.dot = 256
    · have stage : p.background c = { p.shift.tileStep c with v := incY (p.shift.tileStep c).v } := by
        simp (disch := omega) only [Ppu.background, if_pos work, if_pos, if_neg]
      exact stage ▸ .incrementY on dot
    by_cases dot : p.dot = 257
    · have stage : p.background c = { (p.shift.tileStep c).reload with
          v := copyX (p.shift.tileStep c).v (p.shift.tileStep c).t } := by
        simp (disch := omega) only [Ppu.background, if_pos work, if_pos, if_neg]
      exact stage ▸ .copyHorizontal on dot
    by_cases dot : p.dot = 321
    · have stage : p.background c = p.tileStep c := by
        simp (disch := omega) only [Ppu.background, if_pos work, if_pos, if_neg]
      exact stage ▸ .nextLine on dot
    by_cases window : (2 ≤ p.dot ∧ p.dot ≤ 255) ∨ (322 ≤ p.dot ∧ p.dot ≤ 337)
    · have stage : p.background c = p.shift.tileStep c := by
        simp (disch := omega) only [Ppu.background, if_pos work, if_pos, if_neg]
      exact stage ▸ .tile on window
    by_cases dot : p.dot = 338 ∨ p.dot = 340
    · have stage : p.background c = { p with bgNt := p.read c (ntAddr p.v) } := by
        simp (disch := omega) only [Ppu.background, if_pos work, if_pos, if_neg]
      exact stage ▸ .unused on dot
    by_cases copy : p.scanline = 261 ∧ 280 ≤ p.dot ∧ p.dot ≤ 304
    · have stage : p.background c = { p with v := copyY p.v p.t } := by
        simp (disch := omega) only [Ppu.background, if_pos work, if_pos, if_neg]
      exact stage ▸ .copyVertical on copy.1 copy.2
    · have stage : p.background c = p := by
        simp (disch := omega) only [Ppu.background, if_pos work, if_pos, if_neg]
      exact (congrArg _ stage).mpr (.rest on (by omega) copy)

/-! ### The stage in numbers -/

theorem shiftLeft_one_toNat (r : BitVec 16) : (r <<< 1).toNat = 2 * r.toNat % 65536 := by
  rw [BitVec.toNat_shiftLeft, Nat.shiftLeft_eq]
  omega

theorem reloadLow_toNat (r : BitVec 16) (b : Byte) : (reloadLow r b).toNat = r.toNat / 256 * 256 + b.toNat := by
  have := r.isLt
  simp only [reloadLow, toNat_append_eq, extractLsb'_toNat_div]
  omega

theorem atAddr_eq (v : BitVec 15) :
    atAddr v = 0x23C0 + v.toNat / 1024 % 4 * 1024 + v.toNat / 128 % 8 * 8 + v.toNat / 4 % 8 := by
  unfold atAddr
  omega

theorem atBits_toNat (v : BitVec 15) (b : Byte) :
    (atBits v b).toNat = b.toNat / 2 ^ (v.toNat / 64 % 2 * 4 + v.toNat / 2 % 2 * 2) % 4 := by
  have row : (if coarseY v / 2 % 2 = 1 then 4 else 0) = v.toNat / 64 % 2 * 4 := by
    unfold coarseY
    split <;> omega
  have column : (if coarseX v / 2 % 2 = 1 then 2 else 0) = v.toNat / 2 % 2 * 2 := by
    unfold coarseX
    split <;> omega
  simp only [atBits, row, column, extractLsb'_toNat_div]
  rfl

theorem Ppu.patAddr_eq (p : Ppu) (k : Nat) :
    p.patAddr k = p.ctrl.toNat / 16 % 2 * 4096 + p.bgNt.toNat * 16 + p.v.toNat / 4096 + k := by
  have := p.v.isLt
  have table : p.ctrl.getLsbD 4 = decide (p.ctrl.toNat / 16 % 2 = 1) := Nat.testBit_eq_decide_div_mod_eq
  simp only [Ppu.patAddr, fineY, table, decide_eq_true_eq]
  split <;> omega

theorem tilePhase_of_window {p : Ppu} (on : pipelineDot p = true)
    (window : (2 ≤ p.dot ∧ p.dot ≤ 257) ∨ (321 ≤ p.dot ∧ p.dot ≤ 337)) : tilePhase p = some ((p.dot - 1) % 8) :=
  if_pos ⟨on, window⟩

theorem tilePhase_of_idle {p : Ppu} (off : pipelineDot p = false) : tilePhase p = none :=
  if_neg fun work => Bool.false_ne_true (off.symm.trans work.1)

theorem tilePhase_of_outside {p : Ppu} (outside : ¬((2 ≤ p.dot ∧ p.dot ≤ 257) ∨ (321 ≤ p.dot ∧ p.dot ≤ 337))) :
    tilePhase p = none :=
  if_neg fun work => outside work.2

/-! ### The shift registers -/

theorem registerAfter_of_shift {p : Ppu} (on : pipelineDot p = true)
    (window : (2 ≤ p.dot ∧ p.dot ≤ 257) ∨ (322 ≤ p.dot ∧ p.dot ≤ 337)) (r : BitVec 16) (b : Nat) :
    registerAfter p r b =
      if (p.dot - 1) % 8 = 0 then 2 * r.toNat % 65536 / 256 * 256 + b else 2 * r.toNat % 65536 := by
  have shifts : pipelineDot p = true ∧ ((2 ≤ p.dot ∧ p.dot ≤ 257) ∨ (322 ≤ p.dot ∧ p.dot ≤ 337)) := ⟨on, window⟩
  simp only [registerAfter, if_pos shifts, tilePhase_of_window on (by omega), Option.some.injEq]

theorem registerAfter_of_outside {p : Ppu} (outside : ¬((2 ≤ p.dot ∧ p.dot ≤ 257) ∨ (321 ≤ p.dot ∧ p.dot ≤ 337)))
    (r : BitVec 16) (b : Nat) : registerAfter p r b = r.toNat := by
  rw [registerAfter, tilePhase_of_outside outside, if_neg (by simp), if_neg (by omega)]

/-- A shift register with the byte it reloads from: what `Shift` and `Reload` do to it, and that no other part of the
background's stage touches either (61_ppu.md R484). -/
structure ShiftRegister (reg : Ppu → BitVec 16) (source : Ppu → Byte) : Prop where
  shift : ∀ p, reg p.shift = reg p <<< 1 := by exact fun _ => rfl
  source_shift : ∀ p, source p.shift = source p := by exact fun _ => rfl
  reload : ∀ p, reg p.reload = reloadLow (reg p) (source p) := by exact fun _ => rfl
  source_reload : ∀ p, source p.reload = source p := by exact fun _ => rfl
  bgNt : ∀ p b, reg { p with bgNt := b } = reg p := by exact fun _ _ => rfl
  source_bgNt : ∀ p b, source { p with bgNt := b } = source p := by exact fun _ _ => rfl
  bgAt : ∀ p b, reg { p with bgAt := b } = reg p := by exact fun _ _ => rfl
  bgLo : ∀ p b, reg { p with bgLo := b } = reg p := by exact fun _ _ => rfl
  bgHi : ∀ p b, reg { p with bgHi := b } = reg p := by exact fun _ _ => rfl
  v : ∀ p v, reg { p with v := v } = reg p := by exact fun _ _ => rfl

theorem Ppu.tileStep_first (c : Cart) {p : Ppu} (first : (p.dot - 1) % 8 = 0) :
    p.tileStep c = { p.reload with bgNt := p.read c (ntAddr p.v) } := by
  simp only [Ppu.tileStep, first]

section

variable {reg : Ppu → BitVec 16} {source : Ppu → Byte}

theorem ShiftRegister.tileStep (h : ShiftRegister reg source) (c : Cart) (p : Ppu) :
    reg (p.tileStep c) = if (p.dot - 1) % 8 = 0 then reloadLow (reg p) (source p) else reg p := by
  unfold Ppu.tileStep
  split
  next first => rw [if_pos first, h.bgNt, h.reload]
  next step => rw [if_neg (by omega), h.bgAt]
  next step => rw [if_neg (by omega), h.bgLo]
  next step => rw [if_neg (by omega), h.bgHi]
  next step => rw [if_neg (by omega), h.v]
  next other _ _ _ _ => rw [if_neg other]

/-- A register after the dot, in numbers: by the dots at which it is shifted and reloaded. -/
theorem ShiftRegister.background (h : ShiftRegister reg source) (c : Cart) (p : Ppu) :
    (reg (p.background c)).toNat = registerAfter p (reg p) (source p).toNat := by
  have stage := backgroundDot_background c p
  have shifted : (reg (p.shift.tileStep c)).toNat = if (p.dot - 1) % 8 = 0 then
      2 * (reg p).toNat % 65536 / 256 * 256 + (source p).toNat else 2 * (reg p).toNat % 65536 := by
    rw [h.tileStep, h.source_shift, h.shift, ← shiftLeft_one_toNat, ← reloadLow_toNat]
    exact apply_ite BitVec.toNat _ _ _
  generalize p.background c = q at stage ⊢
  cases stage with
  | idle off => rw [registerAfter, tilePhase_of_idle off, if_neg (by simp), if_neg (by simp [off])]
  | rest on outside noCopy => rw [registerAfter_of_outside (by omega)]
  | unused on dot => rw [registerAfter_of_outside (by omega), h.bgNt]
  | copyVertical on line window => rw [registerAfter_of_outside (by omega), h.v]
  | tile on window => rw [registerAfter_of_shift on (by omega), shifted]
  | nextLine on dot =>
    have noShift : ¬(pipelineDot p = true ∧ ((2 ≤ p.dot ∧ p.dot ≤ 257) ∨ (322 ≤ p.dot ∧ p.dot ≤ 337))) := by omega
    have first : (p.dot - 1) % 8 = 0 := by omega
    rw [registerAfter, tilePhase_of_window on (by omega), first, if_pos rfl, if_neg noShift, h.tileStep, if_pos first,
      reloadLow_toNat]
  | incrementY on dot => rw [registerAfter_of_shift on (by omega), h.v, shifted]
  | copyHorizontal on dot =>
    have first : (p.dot - 1) % 8 = 0 := by omega
    have loaded : source (p.shift.tileStep c) = source p := by
      rw [Ppu.tileStep_first c (p := p.shift) first, h.source_bgNt, h.source_reload, h.source_shift]
    have := (source p).isLt
    rw [registerAfter_of_shift on (by omega), if_pos first, h.v, h.reload, reloadLow_toNat, shifted, if_pos first,
      loaded]
    omega

end

/-! ### The latches -/

/-- A latch that a step `k` of the tile cycle loads, and no other part of the background's stage (61_ppu.md R480). -/
structure TileLatch {α : Type} (c : Cart) (k : Nat) (latch load : Ppu → α) : Prop where
  tileStep : ∀ p, latch (p.tileStep c) = if (p.dot - 1) % 8 = k then load p else latch p
  shift : ∀ p, latch p.shift = latch p := by exact fun _ => rfl
  load_shift : ∀ p, load p.shift = load p := by exact fun _ => rfl
  reload : ∀ p, latch p.reload = latch p := by exact fun _ => rfl
  bgNt : ∀ p b, latch { p with bgNt := b } = latch p := by exact fun _ _ => rfl
  v : ∀ p v, latch { p with v := v } = latch p := by exact fun _ _ => rfl

theorem TileLatch.background {α : Type} {c : Cart} {k : Nat} {latch load : Ppu → α} (h : TileLatch c k latch load)
    (p : Ppu) : latch (p.background c) = if tilePhase p = some k then load p else latch p := by
  have stage := backgroundDot_background c p
  have shifted : latch (p.shift.tileStep c) = if (p.dot - 1) % 8 = k then load p else latch p := by
    rw [h.tileStep, h.load_shift, h.shift]
    rfl
  generalize p.background c = q at stage ⊢
  cases stage with
  | idle off => rw [tilePhase_of_idle off, if_neg (by simp)]
  | rest on outside noCopy => rw [tilePhase_of_outside (by omega), if_neg (by simp)]
  | unused on dot => rw [tilePhase_of_outside (by omega), if_neg (by simp), h.bgNt]
  | copyVertical on line window => rw [tilePhase_of_outside (by omega), if_neg (by simp), h.v]
  | tile on window => rw [tilePhase_of_window on (by omega), shifted]; simp only [Option.some.injEq]
  | nextLine on dot => rw [tilePhase_of_window on (by omega), h.tileStep]; simp only [Option.some.injEq]
  | incrementY on dot => rw [tilePhase_of_window on (by omega), h.v, shifted]; simp only [Option.some.injEq]
  | copyHorizontal on dot =>
    rw [tilePhase_of_window on (by omega), h.v, h.reload, shifted]; simp only [Option.some.injEq]

theorem tileLatch_bgAt (c : Cart) : TileLatch c 2 Ppu.bgAt fun p => atBits p.v (p.read c (atAddr p.v)) where
  tileStep p := by
    unfold Ppu.tileStep
    split <;> simp_all [Ppu.reload]

theorem tileLatch_bgLo (c : Cart) : TileLatch c 4 Ppu.bgLo fun p => p.read c (p.patAddr 0) where
  tileStep p := by
    unfold Ppu.tileStep
    split <;> simp_all [Ppu.reload]

theorem tileLatch_bgHi (c : Cart) : TileLatch c 6 Ppu.bgHi fun p => p.read c (p.patAddr 8) where
  tileStep p := by
    unfold Ppu.tileStep
    split <;> simp_all [Ppu.reload]

theorem Ppu.tileStep_bgNt (c : Cart) (p : Ppu) :
    (p.tileStep c).bgNt = if (p.dot - 1) % 8 = 0 then p.read c (ntAddr p.v) else p.bgNt := by
  unfold Ppu.tileStep
  split <;> simp_all

theorem Ppu.tileStep_v (c : Cart) (p : Ppu) :
    (p.tileStep c).v = if (p.dot - 1) % 8 = 7 then incX p.v else p.v := by
  unfold Ppu.tileStep
  split <;> simp_all [Ppu.reload]

/-- The nametable latch is loaded by the tile cycle's first step and by the line's two unused fetches. -/
theorem Ppu.background_bgNt (c : Cart) (p : Ppu) : (p.background c).bgNt =
    if tilePhase p = some 0 ∨ (pipelineDot p && (decide (p.dot = 338) || decide (p.dot = 340))) = true then
      p.read c (ntAddr p.v) else p.bgNt := by
  have stage := backgroundDot_background c p
  have shifted : (p.shift.tileStep c).bgNt = if (p.dot - 1) % 8 = 0 then p.read c (ntAddr p.v) else p.bgNt :=
    Ppu.tileStep_bgNt c p.shift
  generalize p.background c = q at stage ⊢
  cases stage with
  | idle off => simp [tilePhase_of_idle off, off]
  | rest on outside noCopy => rw [tilePhase_of_outside (by omega), if_neg (by simp; omega)]
  | unused on dot => rw [if_pos (.inr (by simp [on, dot]))]
  | copyVertical on line window => rw [tilePhase_of_outside (by omega), if_neg (by simp; omega)]
  | tile on window =>
    have ordinary : ¬(p.dot = 338 ∨ p.dot = 340) := by omega
    rw [tilePhase_of_window on (by omega), shifted]
    simp [ordinary]
  | nextLine on dot => rw [tilePhase_of_window on (by omega), Ppu.tileStep_bgNt]; simp [dot]
  | incrementY on dot => rw [tilePhase_of_window on (by omega)]; exact shifted.trans (by simp [dot])
  | copyHorizontal on dot => rw [tilePhase_of_window on (by omega)]; exact shifted.trans (by simp [dot])

theorem Ppu.background_v (c : Cart) (p : Ppu) : (p.background c).v = scrollAfter p := by
  have stage := backgroundDot_background c p
  have shifted : (p.shift.tileStep c).v = if (p.dot - 1) % 8 = 7 then incX p.v else p.v :=
    Ppu.tileStep_v c p.shift
  generalize p.background c = q at stage ⊢
  unfold scrollAfter
  cases stage with
  | idle off => rw [if_pos off]
  | rest on outside noCopy =>
    rw [tilePhase_of_outside (by omega), if_neg (by simp [on]), if_neg (by omega), if_neg (by omega), if_neg (by simp),
      if_neg noCopy]
  | unused on dot =>
    rw [tilePhase_of_outside (by omega), if_neg (by simp [on]), if_neg (by omega), if_neg (by omega), if_neg (by simp),
      if_neg (by omega)]
  | copyVertical on line window =>
    rw [tilePhase_of_outside (by omega), if_neg (by simp [on]), if_neg (by omega), if_neg (by omega), if_neg (by simp),
      if_pos ⟨line, window⟩]
  | tile on window =>
    rw [tilePhase_of_window on (by omega), if_neg (by simp [on]), if_neg (by omega), if_neg (by omega), shifted]
    simp only [Option.some.injEq, if_neg (show ¬(p.scanline = 261 ∧ 280 ≤ p.dot ∧ p.dot ≤ 304) by omega)]
  | nextLine on dot =>
    rw [tilePhase_of_window on (by omega), Ppu.tileStep_v]
    simp [on, dot]
  | incrementY on dot =>
    rw [if_neg (by simp [on]), if_pos dot, shifted, if_pos (by omega)]
  | copyHorizontal on dot =>
    have t : (p.shift.tileStep c).t = p.t := (Ppu.same_tileStep c p.shift).t
    rw [if_neg (by simp [on]), if_neg (by omega), if_pos dot, shifted, t, if_neg (by omega)]

/-! ### The obligation -/

theorem shiftRegister_shAtLo : ShiftRegister Ppu.shAtLo fun p => repeatBit (p.bgAt.getLsbD 0) where

theorem shiftRegister_shAtHi : ShiftRegister Ppu.shAtHi fun p => repeatBit (p.bgAt.getLsbD 1) where

/-- The two bits of a palette number, each repeated over a byte. -/
theorem repeatBit_palette (b : BitVec 2) : (repeatBit (b.getLsbD 0)).toNat = 255 * (b.toNat % 2) ∧
    (repeatBit (b.getLsbD 1)).toNat = 255 * (b.toNat / 2) := by
  revert b
  decide

/-- Settles O5: the background's stage field by field, from the state before the dot, since the flag events change no
field it reads and the stages after it none it writes. -/
theorem backgroundPipeline : Obligations.BackgroundPipeline := by
  unfold Obligations.BackgroundPipeline
  intro s p t v patterns unused
  obtain ⟨vblank, hit, overflow, event, flags⟩ := p.flagEvents_frame
  obtain ⟨_, _, _, _, _, _, _, _, _, dot⟩ := Ppu.dotStep_frame s.cfg s.cart p
  have same : p.Same t := Ppu.same_dotStep s.cfg s.cart p
  rw [flags] at dot
  have stage : t = _ := dot
  clear_value t
  obtain ⟨atLow, atHigh⟩ := repeatBit_palette p.bgAt
  let q : Ppu := { p with vblank := vblank, sprite0Hit := hit, spriteOverflow := overflow, vblEvent := event }
  have bgAt := congrArg BitVec.toNat ((tileLatch_bgAt s.cart).background q)
  have bgLo := (tileLatch_bgLo s.cart).background q
  have bgHi := (tileLatch_bgHi s.cart).background q
  rw [apply_ite BitVec.toNat, atBits_toNat, atAddr_eq] at bgAt
  rw [Ppu.patAddr_eq, Nat.add_zero] at bgLo
  rw [Ppu.patAddr_eq] at bgHi
  refine ⟨?_, ?_, ?_, ?_, ?_, ?_, ?_, ?_, ?_, same.t, same.x⟩ <;> rw [stage]
  · exact ShiftRegister.background (reg := Ppu.shPatLo) (source := Ppu.bgLo) {} s.cart q
  · exact ShiftRegister.background (reg := Ppu.shPatHi) (source := Ppu.bgHi) {} s.cart q
  · exact (shiftRegister_shAtLo.background s.cart q).trans (congrArg (registerAfter p p.shAtLo) atLow)
  · exact (shiftRegister_shAtHi.background s.cart q).trans (congrArg (registerAfter p p.shAtHi) atHigh)
  · exact Ppu.background_bgNt s.cart q
  · exact bgAt
  · exact bgLo
  · exact bgHi
  · exact Ppu.background_v s.cart q

end Sys2Proof.Machine
end

section
/-!
SUPPORT. O51 and O52: the flags and the counters of one dot, and the length of a frame (61_ppu.md R471, R487).
-/

namespace Sys2Proof.Machine

/-! ### The background's stage and the flags -/

theorem Ppu.tileStep_frame (c : Cart) (p : Ppu) : ∃ v nt palette lo hi r1 r2 r3 r4, p.tileStep c = { p with
    v := v, bgNt := nt, bgAt := palette, bgLo := lo, bgHi := hi
    shPatLo := r1, shPatHi := r2, shAtLo := r3, shAtHi := r4 } := by
  unfold Ppu.tileStep
  split <;> exact ⟨_, _, _, _, _, _, _, _, _, rfl⟩

theorem Ppu.background_frame (c : Cart) (p : Ppu) : ∃ v nt palette lo hi r1 r2 r3 r4, p.background c = { p with
    v := v, bgNt := nt, bgAt := palette, bgLo := lo, bgHi := hi
    shPatLo := r1, shPatHi := r2, shAtLo := r3, shAtHi := r4 } := by
  have stage := backgroundDot_background c p
  obtain ⟨_, _, _, _, _, _, _, _, _, kept⟩ := Ppu.tileStep_frame c p
  obtain ⟨_, _, _, _, _, _, _, _, _, shifted⟩ := Ppu.tileStep_frame c p.shift
  generalize p.background c = q at stage ⊢
  cases stage with
  | idle | rest | unused | copyVertical => exact ⟨_, _, _, _, _, _, _, _, _, rfl⟩
  | nextLine => exact ⟨_, _, _, _, _, _, _, _, _, kept⟩
  | tile | incrementY | copyHorizontal =>
    rw [shifted]
    exact ⟨_, _, _, _, _, _, _, _, _, rfl⟩

theorem Ppu.flagEvents_of_preRender {p : Ppu} (preRender : p.scanline = 261 ∧ p.dot = 1) :
    p.flagEvents = { p with vblank := false, sprite0Hit := false, spriteOverflow := false } := by
  simp only [Ppu.flagEvents, if_pos preRender.1, if_pos preRender.2]

theorem Ppu.flagEvents_of_other {p : Ppu} (noEnd : ¬(p.scanline = 261 ∧ p.dot = 1))
    (noStart : ¬(p.scanline = 241 ∧ p.dot = 1)) : p.flagEvents = p := by
  unfold Ppu.flagEvents
  split
  · rw [if_neg (by omega), if_neg (by omega)]
  · rfl

/-- Only the flag events change vblank and the driver's signal. -/
theorem Ppu.dotStep_vblank (cfg : Params) (c : Cart) (p : Ppu) :
    (p.dotStep cfg c).vblank = p.flagEvents.vblank ∧ (p.dotStep cfg c).vblEvent = p.flagEvents.vblEvent := by
  obtain ⟨_, _, _, _, _, _, _, _, _, dot⟩ := Ppu.dotStep_frame cfg c p
  obtain ⟨_, _, _, _, _, _, _, _, _, stage⟩ := Ppu.background_frame c p.flagEvents
  rw [dot, stage]
  exact ⟨rfl, rfl⟩

/-- Before the sprites' window the sprites' stage does nothing. -/
theorem Ppu.spriteStep_of_early (cfg : Params) (c : Cart) {p : Ppu} (early : p.dot < 257) : p.spriteStep cfg c = p := by
  have noEvaluation : ¬(p.dot = 257 ∧ cfg.sprites = .full) := fun late => by omega
  simp only [Ppu.spriteStep, if_neg noEvaluation, if_neg (show ¬(257 ≤ p.dot ∧ p.dot ≤ 320) by omega), ite_self]

theorem Ppu.pixelStep_of_hidden (cfg : Params) {p : Ppu} (hidden : ¬(p.scanline < 240 ∧ 1 ≤ p.dot ∧ p.dot ≤ 256)) :
    p.pixelStep cfg = p := if_neg hidden

theorem Ppu.requestsNmi_eq (p : Ppu) :
    p.requestsNmi = (decide (p.scanline = 241 ∧ p.dot = 1) && decide (128 ≤ p.ctrl.toNat)) := by
  have enabled : p.nmiEnabled = decide (128 ≤ p.ctrl.toNat) := BitVec.msb_eq_decide p.ctrl
  rw [Ppu.requestsNmi, enabled, Bool.eq_iff_iff]
  simp only [Bool.and_eq_true, beq_iff_eq, decide_eq_true_eq]
  tauto

theorem ppuDot_nmiPending (s : State) : (ppuDot s).nmiPending =
    (s.nmiPending || (decide (s.ppu.scanline = 241 ∧ s.ppu.dot = 1) && decide (128 ≤ s.ppu.ctrl.toNat))) :=
  congrArg (s.nmiPending || ·) s.ppu.requestsNmi_eq

/-- The status flags that a dot of the pre-render line's start leaves are those of the flag events. -/
theorem Ppu.dotStep_status (cfg : Params) (c : Cart) {p : Ppu} (preRender : p.scanline = 261 ∧ p.dot = 1) :
    (p.dotStep cfg c).sprite0Hit = false ∧ (p.dotStep cfg c).spriteOverflow = false := by
  have flags := Ppu.flagEvents_of_preRender preRender
  obtain ⟨_, _, _, _, _, _, _, _, _, stage⟩ := Ppu.background_frame c p.flagEvents
  rw [flags] at stage
  obtain ⟨_, _, _, advance⟩ := Ppu.advance_frame (p.flagEvents.background c)
  rw [Ppu.dotStep, Ppu.spriteStep_of_early, Ppu.pixelStep_of_hidden, advance, flags, stage]
  · exact ⟨rfl, rfl⟩
  · rw [flags, stage]
    dsimp only
    omega
  · rw [flags, stage]
    dsimp only
    omega

/-- Settles O51: the flag events by the place of the dot, and the NMI request at (241, 1) alone. -/
theorem vblankFlags : Obligations.VblankFlags := by
  unfold Obligations.VblankFlags
  intro s t
  obtain ⟨vblank, event⟩ : t.ppu.vblank = s.ppu.flagEvents.vblank ∧ t.ppu.vblEvent = s.ppu.flagEvents.vblEvent :=
    Ppu.dotStep_vblank s.cfg s.cart s.ppu
  have nmi : t.nmiPending = _ := ppuDot_nmiPending s
  split
  next start =>
    rw [vblank, event, nmi]
    simp [Ppu.flagEvents, start]
  next noStart =>
    have noRequest : t.nmiPending = s.nmiPending := by simp [nmi, noStart]
    by_cases preRender : s.ppu.scanline = 261 ∧ s.ppu.dot = 1
    · rw [Ppu.flagEvents_of_preRender preRender] at vblank event
      rw [if_pos preRender]
      exact ⟨noRequest, event, vblank, Ppu.dotStep_status s.cfg s.cart preRender⟩
    · rw [Ppu.flagEvents_of_other preRender noStart] at vblank event
      rw [if_neg preRender]
      exact ⟨noRequest, event, vblank⟩

/-! ### The counters -/

/-- The counters advance from where they stood, with the mask as it was. -/
theorem Ppu.dotStep_advance (cfg : Params) (c : Cart) (p : Ppu) : ∃ q : Ppu, p.dotStep cfg c = q.advance ∧
    q.dot = p.dot ∧ q.scanline = p.scanline ∧ q.odd = p.odd ∧ q.rendering = p.rendering := by
  obtain ⟨_, _, _, _, flags⟩ := p.flagEvents_frame
  obtain ⟨_, _, _, _, _, _, _, _, _, stage⟩ := Ppu.background_frame c p.flagEvents
  obtain ⟨_, _, _, _, sprites⟩ := Ppu.spriteStep_frame cfg c (p.flagEvents.background c)
  obtain ⟨_, _, pixel⟩ := Ppu.pixelStep_frame cfg ((p.flagEvents.background c).spriteStep cfg c)
  refine ⟨_, rfl, ?_⟩
  rw [pixel, sprites, stage, flags]
  exact ⟨rfl, rfl, rfl, rfl⟩

/-- The odd frame skips the last dot of the pre-render line when rendering (61_ppu.md R471). -/
theorem Ppu.advance_of_skip {p : Ppu} (skip : p.scanline = 261 ∧ p.dot = 339 ∧ p.odd = true ∧ p.rendering = true) :
    p.advance.dot = 0 ∧ p.advance.scanline = 0 ∧ p.advance.odd = false := by
  rw [Ppu.advance, if_pos skip]
  exact ⟨rfl, rfl, rfl⟩

theorem Ppu.advance_of_no_skip {p : Ppu}
    (noSkip : ¬(p.scanline = 261 ∧ p.dot = 339 ∧ p.odd = true ∧ p.rendering = true))
    (dot : p.dot ≤ 340) (line : p.scanline ≤ 261) :
    if p.dot < 340 then p.advance.dot = p.dot + 1 ∧ p.advance.scanline = p.scanline ∧ p.advance.odd = p.odd
    else if p.scanline < 261 then
      p.advance.dot = 0 ∧ p.advance.scanline = p.scanline + 1 ∧ p.advance.odd = p.odd
    else p.advance.dot = 0 ∧ p.advance.scanline = 0 ∧ p.advance.odd = !p.odd := by
  by_cases inLine : p.dot < 340
  · rw [if_pos inLine, Ppu.advance, if_neg noSkip, if_neg (by omega)]
    exact ⟨rfl, rfl, rfl⟩
  rw [if_neg inLine]
  by_cases inFrame : p.scanline < 261
  · rw [if_pos inFrame, Ppu.advance, if_neg noSkip, if_pos (by omega), if_neg (by omega)]
    exact ⟨rfl, rfl, rfl⟩
  · rw [if_neg inFrame, Ppu.advance, if_neg noSkip, if_pos (by omega), if_pos (by omega)]
    exact ⟨rfl, rfl, rfl⟩

/-- The first part of O52: the counters after one dot. -/
theorem ppuDot_counters (s : State) (dot : s.ppu.dot ≤ 340) (line : s.ppu.scanline ≤ 261) :
    let t := (ppuDot s).ppu
    if s.ppu.scanline = 261 ∧ s.ppu.dot = 339 ∧ s.ppu.odd = true ∧ s.ppu.rendering = true then
      t.dot = 0 ∧ t.scanline = 0 ∧ t.odd = false
    else if s.ppu.dot < 340 then t.dot = s.ppu.dot + 1 ∧ t.scanline = s.ppu.scanline ∧ t.odd = s.ppu.odd
    else if s.ppu.scanline < 261 then t.dot = 0 ∧ t.scanline = s.ppu.scanline + 1 ∧ t.odd = s.ppu.odd
    else t.dot = 0 ∧ t.scanline = 0 ∧ t.odd = !s.ppu.odd := by
  intro t
  obtain ⟨q, advance, qDot, qLine, qOdd, qRendering⟩ := Ppu.dotStep_advance s.cfg s.cart s.ppu
  have step : t = q.advance := advance
  rw [step, ← qDot, ← qLine, ← qOdd, ← qRendering]
  split
  next skip => exact Ppu.advance_of_skip skip
  next noSkip => exact Ppu.advance_of_no_skip noSkip (by omega) (by omega)

/-! ### A frame -/

theorem ppuDots_succ (n : Nat) (s : State) : ppuDots (n + 1) s = ppuDot (ppuDots n s) := by
  induction n generalizing s with
  | zero => rfl
  | succ n ih => exact ih (ppuDot s)

theorem ppuDots_rendering (n : Nat) (s : State) : (ppuDots n s).ppu.rendering = s.ppu.rendering := by
  simp only [Ppu.rendering, Ppu.showBg, Ppu.showSpr, (cycled_ppuDots n s).ppu.mask]

/-- Up to dot 339 of the pre-render line a frame's dots fill its lines one after another. -/
theorem ppuDots_position {s : State} (dot : s.ppu.dot = 0) (line : s.ppu.scanline = 0) (n : Nat) (few : n ≤ 89340) :
    341 * (ppuDots n s).ppu.scanline + (ppuDots n s).ppu.dot = n ∧ (ppuDots n s).ppu.dot ≤ 340 ∧
      (ppuDots n s).ppu.odd = s.ppu.odd := by
  induction n with
  | zero => exact ⟨by simp only [ppuDots, dot, line], by simp only [ppuDots, dot]; omega, rfl⟩
  | succ n ih =>
    obtain ⟨place, high, odd⟩ := ih (by omega)
    have next := ppuDot_counters (ppuDots n s) high (by omega)
    rw [ppuDots_succ]
    dsimp only at next
    rw [if_neg (by omega)] at next
    split at next
    next =>
      obtain ⟨dot', line', odd'⟩ := next
      exact ⟨by omega, by omega, odd'.trans odd⟩
    next =>
      rw [if_pos (by omega)] at next
      obtain ⟨dot', line', odd'⟩ := next
      exact ⟨by omega, by omega, odd'.trans odd⟩

/-- A frame that does not skip its last dot has one dot more than one that does. -/
theorem frame_end {s : State} (dot : s.ppu.dot = 0) (line : s.ppu.scanline = 0) (n : Nat) (last : n = 89340) :
    let t := (ppuDots (if s.ppu.odd = true ∧ s.ppu.rendering = true then n + 1 else n + 2) s).ppu
    t.dot = 0 ∧ t.scanline = 0 ∧ t.odd = !s.ppu.odd := by
  obtain ⟨place, high, odd⟩ := ppuDots_position dot line n (by omega)
  have rendering := ppuDots_rendering n s
  have next := ppuDot_counters (ppuDots n s) high (by omega)
  rw [← ppuDots_succ, odd, rendering] at next
  intro t
  by_cases skip : s.ppu.odd = true ∧ s.ppu.rendering = true
  · rw [if_pos ⟨by omega, by omega, skip⟩] at next
    have ends : t = (ppuDots (n + 1) s).ppu := by simp only [t, if_pos skip]
    rw [ends, skip.1]
    exact next
  · rw [if_neg (by tauto), if_pos (by omega)] at next
    obtain ⟨dot', line', odd'⟩ := next
    have wrap := ppuDot_counters (ppuDots (n + 1) s) (by omega) (by omega)
    rw [← ppuDots_succ, if_neg (by omega), if_neg (by omega), if_neg (by omega), odd'] at wrap
    simp only [t, if_neg skip]
    exact wrap

/-- Settles O52: one dot by `ppuDot_counters`, a frame by `frame_end`. -/
theorem dotCounter : Obligations.DotCounter := by
  unfold Obligations.DotCounter
  exact ⟨ppuDot_counters, fun s dot line => frame_end dot line 89340 rfl⟩

end Sys2Proof.Machine
end

section
/-!
SUPPORT. O54: the pixel of a visible dot in numbers: the fine-X bit of a shift register, the first sprite that shows at
a column, the palette entry by the priority rule, and the frame buffer (61_ppu.md R488, R502, R503, R510).
-/

namespace Sys2Proof.Machine

/-! ### Bits in numbers -/

theorem getLsbD_eq_decide {w : Nat} (v : BitVec w) (k : Nat) : v.getLsbD k = decide (v.toNat / 2 ^ k % 2 = 1) :=
  Nat.testBit_eq_decide_div_mod_eq

theorem toNat_getLsbD {w : Nat} (v : BitVec w) (k : Nat) : (v.getLsbD k).toNat = v.toNat / 2 ^ k % 2 :=
  Nat.toNat_testBit v.toNat k

/-! ### The background's pixel -/

/-- The bit that fine X selects, from bit 15 down; beyond the register there is none (61_ppu.md R488). -/
theorem and_fineX_eq_zero (r : BitVec 16) (k : Nat) :
    r &&& (0x8000#16 >>> k) = 0 ↔ r.toNat * 2 ^ k / 32768 % 2 = 0 := by
  by_cases inside : k < 16
  · have one : 0x8000#16 >>> k = BitVec.twoPow 16 (15 - k) ∧ BitVec.twoPow 16 (15 - k) ≠ 0 := by
      interval_cases k <;> decide
    have width : 32768 = 2 ^ (15 - k) * 2 ^ k := by
      rw [← pow_add, Nat.sub_add_cancel (by omega)]
      rfl
    rw [one.1, BitVec.and_twoPow, getLsbD_eq_decide, width, Nat.mul_div_mul_right _ _ (by positivity)]
    split
    next bit =>
      have set := of_decide_eq_true bit
      exact iff_of_false one.2 (by omega)
    next bit =>
      have clear := of_decide_eq_false (Bool.eq_false_iff.mpr bit)
      exact iff_of_true rfl (by omega)
  · have none : 0x8000#16 >>> k = 0 := BitVec.ushiftRight_eq_zero (by omega)
    obtain ⟨j, rfl⟩ : ∃ j, k = j + 16 := ⟨k - 16, by omega⟩
    rw [none, pow_add, ← mul_assoc]
    exact iff_of_true BitVec.and_zero (by omega)

theorem Ppu.bitPair_eq (p : Ppu) (hi lo : BitVec 16) : p.bitPair hi lo = 2 * fineBit p hi + fineBit p lo := by
  have bit (r : BitVec 16) (n : Nat) : (if r &&& (0x8000#16 >>> p.x.toNat) = 0 then 0 else n) = n * fineBit p r := by
    have two : fineBit p r < 2 := Nat.mod_lt _ (by decide)
    split
    next clear => rw [show fineBit p r = 0 from (and_fineX_eq_zero r _).mp clear, Nat.mul_zero]
    next set =>
      have one : fineBit p r ≠ 0 := fun clear => set ((and_fineX_eq_zero r _).mpr clear)
      rw [show fineBit p r = 1 by omega, Nat.mul_one]
  rw [Ppu.bitPair, bit, bit, Nat.one_mul]

theorem Ppu.bgPix_eq (p : Ppu) (x : Nat) : p.bgPix x = backgroundPixel p x := by
  have clip : (p.mask.getLsbD 1 = false ∧ x < 8) ↔ (p.mask.toNat / 2 % 2 = 0 ∧ x < 8) := by
    rw [getLsbD_eq_decide, decide_eq_false_iff_not, pow_one, Nat.mod_two_not_eq_one]
  simp only [Ppu.bgPix, backgroundPixel, clip, Ppu.bitPair_eq]

theorem backgroundPixel_lt (p : Ppu) (x : Nat) : backgroundPixel p x < 4 := by
  unfold backgroundPixel fineBit
  split <;> omega

/-! ### The sprite's pixel -/

theorem Sprite.pixelAt_eq (e : Sprite) (x : Nat) : e.pixelAt x = spriteBits e x := by
  simp only [Sprite.pixelAt, spriteBits, toNat_getLsbD]

theorem spriteBits_lt (e : Sprite) (x : Nat) : spriteBits e x < 4 := by
  unfold spriteBits
  split <;> omega

/-- The sprite pixel that an entry of the list gives, with its place (61_ppu.md R502). -/
def shownPixel (x : Nat) (zero : Bool) : Option (Sprite × Nat) → SpritePixel
  | none => { pix := 0, pal := 0, behind := false, zero := false }
  | some e => { pix := spriteBits e.1 x, pal := 4 + e.1.attr.toNat % 4, behind := decide (e.1.attr.toNat / 32 % 2 = 1)
                zero := e.2 == 0 && zero }

/-- From place `n` on the first entry with a non-zero pixel gives the sprite pixel. -/
theorem firstSpritePixel_from (x : Nat) (zero : Bool) (l : List Sprite) (n : Nat) :
    firstSpritePixel x (n == 0 && zero) l = shownPixel x zero ((l.zipIdx n).find? fun e => spriteBits e.1 x != 0) := by
  induction l generalizing n with
  | nil => rfl
  | cons e l ih =>
    have tail := ih (n + 1)
    unfold firstSpritePixel
    rw [Sprite.pixelAt_eq, List.zipIdx_cons, List.find?_cons]
    by_cases clear : spriteBits e x = 0
    · simp only [clear, if_true, bne_self_eq_false]
      exact tail
    · have lit : (spriteBits e x != 0) = true := by simpa using clear
      simp only [if_neg clear, lit, getLsbD_eq_decide]
      rfl

theorem Ppu.spritePixel_eq (cfg : Params) (p : Ppu) (x : Nat) :
    p.spritePixel cfg x = shownPixel x p.spr0OnLine (shownSprite cfg p x) := by
  have hidden : (cfg.sprites = .stub ∨ p.showSpr = false ∨ (p.mask.getLsbD 2 = false ∧ x < 8)) ↔
      (cfg.sprites = .stub ∨ p.mask.toNat / 16 % 2 = 0 ∨ (p.mask.toNat / 4 % 2 = 0 ∧ x < 8)) := by
    simp only [Ppu.showSpr, getLsbD_eq_decide, decide_eq_false_iff_not, Nat.mod_two_not_eq_one]
    rfl
  simp only [Ppu.spritePixel, shownSprite, hidden]
  split
  · rfl
  · exact firstSpritePixel_from x p.spr0OnLine p.spr 0

theorem spriteBits_of_shown {cfg : Params} {p : Ppu} {x : Nat} {e : Sprite × Nat}
    (shown : shownSprite cfg p x = some e) : spriteBits e.1 x ≠ 0 := by
  unfold shownSprite at shown
  split at shown
  · cases shown
  · simpa using List.find?_some shown

theorem showSpr_of_shown {cfg : Params} {p : Ppu} {x : Nat} {e : Sprite × Nat}
    (shown : shownSprite cfg p x = some e) : p.showSpr = true := by
  unfold shownSprite at shown
  split at shown
  · cases shown
  next visible =>
    have bit : p.mask.toNat / 2 ^ 4 % 2 = 1 := by omega
    rw [Ppu.showSpr, getLsbD_eq_decide, decide_eq_true bit]

/-! ### The palette entry and the hit -/

theorem palIndex_entry {i : Nat} (entry : i < 32) (noAlias : i % 4 ≠ 0 ∨ i < 16) : palIndex (0x3F00 + i) = i := by
  have low : (0x3F00 + i) % 0x20 = i := by omega
  simp only [palIndex, low]
  rw [if_neg (by omega)]

/-- The colour of a pixel is that of the entry the priority rule selects (61_ppu.md R510). -/
theorem palIndex_pixelPalAddr (cfg : Params) (p : Ppu) (x : Nat) :
    palIndex (p.pixelPalAddr x (p.spritePixel cfg x)) = pixelEntry cfg p x := by
  have low := backgroundPixel_lt p x
  have pair : 2 * fineBit p p.shAtHi + fineBit p p.shAtLo < 4 := by
    unfold fineBit
    omega
  have show_ : (p.showBg = false) ↔ p.mask.toNat / 8 % 2 = 0 := by
    rw [Ppu.showBg, getLsbD_eq_decide, decide_eq_false_iff_not, Nat.mod_two_not_eq_one]
    rfl
  have behind : palIndex (0x3F00 + 4 * p.bgPal + backgroundPixel p x) =
      4 * (2 * fineBit p p.shAtHi + fineBit p p.shAtLo) + backgroundPixel p x := by
    rw [Ppu.bgPal, Ppu.bitPair_eq, Nat.add_assoc, palIndex_entry (by omega) (by omega)]
  simp only [Ppu.pixelPalAddr, pixelEntry, show_, Ppu.spritePixel_eq, Ppu.bgPix_eq]
  split
  · rfl
  cases shown : shownSprite cfg p x with
  | none =>
    simp only [shownPixel, if_true]
    split
    · rfl
    · exact behind
  | some e =>
    have lit := spriteBits_of_shown shown
    have bits := spriteBits_lt e.1 x
    have front : palIndex (0x3F00 + 4 * (4 + e.1.attr.toNat % 4) + spriteBits e.1 x) =
        16 + 4 * (e.1.attr.toNat % 4) + spriteBits e.1 x := by
      rw [Nat.add_assoc, palIndex_entry (by omega) (by omega)]
      omega
    have shownLit : (shownPixel x p.spr0OnLine (some e)).pix ≠ 0 := lit
    rw [if_neg shownLit, if_neg shownLit]
    simp only [shownPixel, decide_eq_true_eq]
    by_cases clear : backgroundPixel p x = 0
    · rw [if_pos clear, if_pos (.inl clear), front]
    · rw [if_neg clear]
      split
      next back => rw [if_neg (by omega), behind]
      next above => rw [if_pos (by omega), front]

/-- The two pixels of sprite 0 and the background meet (61_ppu.md R503). -/
theorem zeroHit_eq (cfg : Params) (p : Ppu) (x : Nat) :
    ((p.spritePixel cfg x).zero && p.bgPix x != 0 && (p.spritePixel cfg x).pix != 0 && p.showBg && p.showSpr &&
      x != 255) = zeroHit cfg p x := by
  have show_ : p.showBg = decide (p.mask.toNat / 8 % 2 = 1) := getLsbD_eq_decide p.mask 3
  simp only [zeroHit, Ppu.spritePixel_eq, Ppu.bgPix_eq, show_]
  cases shown : shownSprite cfg p x with
  | none => simp [shownPixel]
  | some e =>
    have lit : (spriteBits e.1 x != 0) = true := by simpa using spriteBits_of_shown shown
    simp only [shownPixel, lit, showSpr_of_shown shown, Option.any_some, Bool.and_true]
    ac_rfl

/-! ### The frame buffer -/

theorem Frame.pixel_of_row {f : Frame} {line : Nat} {row : List (Nat × BitVec 6)} (drawn : sortedGet f line = some row)
    (x : Nat) : f.pixel line x = (sortedGet row x).getD (Config.initPixel line x) := by
  simp only [Frame.pixel, drawn]

theorem Frame.pixel_of_fresh {f : Frame} {line : Nat} (fresh : sortedGet f line = none) (x : Nat) :
    f.pixel line x = Config.initPixel line x := by
  simp only [Frame.pixel, fresh]

theorem Frame.pixel_put (f : Frame) (line x : Nat) (col : BitVec 6) (line' x' : Nat) :
    (f.put line x col).pixel line' x' = if line' = line ∧ x' = x then col else f.pixel line' x' := by
  by_cases same : line' = line
  · subst same
    cases drawn : sortedGet f line' with
    | some row =>
      have put : sortedGet (f.put line' x col) line' = some (sortedPut row x col) := by
        simp only [Frame.put, drawn, sortedGet_sortedPut, if_true]
      rw [Frame.pixel_of_row put, Frame.pixel_of_row drawn, sortedGet_sortedPut]
      by_cases here : x' = x <;> simp [here]
    | none =>
      have put : sortedGet (f.put line' x col) line' = some (sortedPut [] x col) := by
        simp only [Frame.put, drawn, sortedGet_sortedPut, if_true, sortedPut]
      rw [Frame.pixel_of_row put, Frame.pixel_of_fresh drawn, sortedGet_sortedPut]
      by_cases here : x' = x <;> simp [here, sortedGet]
  · have put : sortedGet (f.put line x col) line' = sortedGet f line' := by
      unfold Frame.put
      split <;> rw [sortedGet_sortedPut, if_neg same]
    simp only [Frame.pixel, put, same, false_and, if_false]

/-! ### The obligation -/

theorem Ppu.pixelColour_eq (cfg : Params) (p : Ppu) (x : Nat) :
    p.pixelColour x (p.spritePixel cfg x) =
      (if p.mask.toNat % 2 = 1 then Memory.byte .palette p.palette (pixelEntry cfg p x) &&& 0x30
        else Memory.byte .palette p.palette (pixelEntry cfg p x)).setWidth 6 := by
  have grey : p.mask.getLsbD 0 = true ↔ p.mask.toNat % 2 = 1 := by
    rw [getLsbD_eq_decide, decide_eq_true_iff, pow_zero, Nat.div_one]
  simp only [Ppu.pixelColour, palIndex_pixelPalAddr, grey]

/-- A visible dot is its background stage and its pixel. -/
theorem Ppu.dotStep_of_visible (cfg : Params) (c : Cart) {p : Ppu} (line : p.scanline < 240)
    (last : p.dot ≤ 256) : p.dotStep cfg c = ((p.background c).pixelStep cfg).advance := by
  obtain ⟨_, _, _, _, _, _, _, _, _, stage⟩ := Ppu.background_frame c p
  have early : (p.background c).dot < 257 := by
    rw [stage]
    exact Nat.lt_succ_of_le last
  rw [Ppu.dotStep, Ppu.flagEvents_of_other (by omega) (by omega), Ppu.spriteStep_of_early cfg c early]

/-- Settles O54: the dot's pixel from the shift registers that its background stage leaves, in numbers. -/
theorem pixelOutput : Obligations.PixelOutput := by
  unfold Obligations.PixelOutput
  intro s line first last t p x entry
  obtain ⟨v, nt, palette, lo, hi, r1, r2, r3, r4, stage⟩ := Ppu.background_frame s.cart s.ppu
  have dot : t.ppu = _ := Ppu.dotStep_of_visible s.cfg s.cart line last
  generalize s.ppu.background s.cart = b at stage dot
  have visible : b.scanline < 240 ∧ 1 ≤ b.dot ∧ b.dot ≤ 256 := by
    rw [stage]
    exact ⟨line, first, last⟩
  obtain ⟨_, _, _, advance⟩ := Ppu.advance_frame (b.pixelStep s.cfg)
  rw [advance, Ppu.pixelStep, if_pos visible] at dot
  dsimp only at dot
  rw [zeroHit_eq, Ppu.pixelColour_eq] at dot
  clear_value t
  subst stage
  have pixels : p = { s.ppu with shPatLo := r1, shPatHi := r2, shAtLo := r3, shAtHi := r4 } := by
    simp only [p, dot]
  refine ⟨fun row col => ?_, ?_⟩
  · rw [dot]
    refine (Frame.pixel_put _ _ _ _ _ _).trans ?_
    simp only [entry, pixels]
    rfl
  · rw [dot, pixels]
    rfl

end Sys2Proof.Machine
end

section
/-!
SUPPORT. O48 and O49: the nametable cells, and what a CPU write to each register of the PPU changes (20_memory.md R171;
61_ppu.md R460 to R466).
-/

namespace Sys2Proof.Machine

/-! ### Nametables -/

theorem Ppu.read_nametable (c : Cart) (p : Ppu) {a : Nat} (low : 0x2000 ≤ a) (high : a < 0x3F00) :
    p.read c a = Memory.byte .vram p.vram (ntIndex c.effectiveMirroring a) := by
  simp (disch := omega) only [Ppu.read, if_neg, if_pos]

theorem Ppu.write_nametable (c : Cart) (p : Ppu) {a : Nat} (v : Byte) (low : 0x2000 ≤ a) (high : a < 0x3F00) :
    p.write c a v = { p with vram := p.vram.write (ntIndex c.effectiveMirroring a) v } := by
  simp (disch := omega) only [Ppu.write, if_neg, if_pos]

/-- Settles O48: both accesses go through the cell `ntIndex` gives, which is the table's, so a read sees a write where
the cells are equal. -/
theorem nametableMirroring : Obligations.NametableMirroring := by
  unfold Obligations.NametableMirroring
  intro c p a b v lowA highA lowB highB cell
  have table (x : Nat) : ntIndex c.effectiveMirroring x = cell x := by
    simp only [cell, ntIndex]
    cases c.effectiveMirroring with
    | singleScreenLow | singleScreenHigh => rfl
    | horizontal | vertical | fourScreen =>
      simp only [ntBank]
      split <;> omega
  rw [p.write_nametable c v lowA highA, Ppu.read_nametable c _ lowB highB, Memory.byte_write,
    ← p.read_nametable c lowB highB, p.read_nametable c lowA highA, table, table]
  exact ⟨table a ▸ ntIndex_lt _ a, rfl, by simp only [eq_comm]⟩

/-! ### The register writes in numbers -/

theorem busWrite_ppu {s : State} {addr : Addr} (v : Byte) (console : s.cfg.busMode = .console)
    (low : 0x2000 ≤ addr.toNat) (high : addr.toNat < 0x4000) :
    busWrite addr v s = ppuRegWrite (addr.toNat % 8) v s := by
  simp (disch := omega) only [busWrite, console, consoleWrite, if_neg, if_pos]

/-- A PPUCTRL write sets bits 11:10 of t (61_ppu.md R463). -/
theorem Ppu.regWrite_ctrl (c : Cart) (p : Ppu) (val : Byte) : ∃ t,
    p.regWrite c 0 val = { p with latch := val, ctrl := val, t := t } ∧
      t.toNat = p.t.toNat / 4096 * 4096 + val.toNat % 4 * 1024 + p.t.toNat % 1024 := by
  refine ⟨_, rfl, ?_⟩
  simp only [toNat_append_eq, extractLsb'_toNat_div]
  omega

theorem Ppu.writeRequestsNmi_eq (p : Ppu) (r : Nat) (val : Byte) : p.writeRequestsNmi r val =
    (decide (r = 0) && (decide (p.ctrl.toNat < 128) && decide (128 ≤ val.toNat) && p.vblank)) := by
  have off : (!p.nmiEnabled) = decide (p.ctrl.toNat < 128) := by
    simp only [Ppu.nmiEnabled, getLsbD_seven_eq_topBit, topBit, ← decide_not, Nat.not_le]
  rw [Ppu.writeRequestsNmi, off, getLsbD_seven_eq_topBit, topBit, beq_eq_decide]
  simp only [Bool.and_assoc]

/-- The first PPUSCROLL write sets coarse X and fine X (61_ppu.md R465). -/
theorem Ppu.regWrite_scroll_first (c : Cart) {p : Ppu} (first : p.w = false) (val : Byte) : ∃ t x,
    p.regWrite c 5 val = { p with latch := val, t := t, x := x, w := true } ∧
      t.toNat = p.t.toNat / 32 * 32 + val.toNat / 8 ∧ x.toNat = val.toNat % 8 := by
  refine ⟨_, val &&& 7, by simp only [Ppu.regWrite, Ppu.scrollWrite, first]; rfl, ?_,
    Nat.and_two_pow_sub_one_eq_mod val.toNat 3⟩
  simp only [toNat_append_eq, extractLsb'_toNat_div]
  omega

/-- The second PPUSCROLL write sets fine Y and coarse Y (61_ppu.md R465). -/
theorem Ppu.regWrite_scroll_second (c : Cart) {p : Ppu} (second : p.w = true) (val : Byte) : ∃ t,
    p.regWrite c 5 val = { p with latch := val, t := t, w := false } ∧
      t.toNat = val.toNat % 8 * 4096 + p.t.toNat / 1024 % 4 * 1024 + val.toNat / 8 * 32 + p.t.toNat % 32 := by
  refine ⟨_, by simp only [Ppu.regWrite, Ppu.scrollWrite, second]; rfl, ?_⟩
  simp only [toNat_append_eq, extractLsb'_toNat_div]
  omega

/-- The first PPUADDR write sets the high bits of t, bit 14 to 0 (61_ppu.md R465). -/
theorem Ppu.regWrite_addr_first (c : Cart) {p : Ppu} (first : p.w = false) (val : Byte) : ∃ t,
    p.regWrite c 6 val = { p with latch := val, t := t, w := true } ∧
      t.toNat = val.toNat % 64 * 256 + p.t.toNat % 256 := by
  refine ⟨_, by simp only [Ppu.regWrite, Ppu.addrWrite, first]; rfl, ?_⟩
  simp only [toNat_append_eq, extractLsb'_toNat_div, BitVec.toNat_ofNat]
  omega

/-- The second PPUADDR write sets the low byte of t, and v to t (61_ppu.md R465). -/
theorem Ppu.regWrite_addr_second (c : Cart) {p : Ppu} (second : p.w = true) (val : Byte) : ∃ t,
    p.regWrite c 6 val = { p with latch := val, t := t, v := t, w := false } ∧
      t.toNat = p.t.toNat / 256 * 256 + val.toNat := by
  refine ⟨_, by simp only [Ppu.regWrite, Ppu.addrWrite, second]; rfl, ?_⟩
  simp only [toNat_append_eq, extractLsb'_toNat_div]
  omega

/-- A PPUDATA write moves v, and stores in one of the PPU's two memories at most (61_ppu.md R466). -/
theorem Ppu.regWrite_data (c : Cart) (p : Ppu) (val : Byte) : ∃ vram palette,
    p.regWrite c 7 val = { p with latch := val, vram := vram, palette := palette, v := p.v + p.increment } := by
  simp only [Ppu.regWrite, Ppu.write]
  split
  · exact ⟨_, _, rfl⟩
  · split <;> exact ⟨_, _, rfl⟩

/-- Settles O49, register by register; the stored byte is `stored_busWrite`. -/
theorem ppuRegisterWrites : Obligations.PpuRegisterWrites := by
  unfold Obligations.PpuRegisterWrites
  intro s a val console low high t p q r n
  have stored : Stored a val s t := stored_busWrite a val s
  have write : t = ppuRegWrite r val s := busWrite_ppu val console low high
  have bound : r < 8 := Nat.mod_lt _ (by decide)
  have nmi : t.nmiPending = _ := (congrArg State.nmiPending write).trans
    (congrArg (s.nmiPending || ·) (p.writeRequestsNmi_eq r val))
  have device : q = p.regWrite s.cart r val := congrArg State.ppu write
  have regs : t.regs = s.regs := (congrArg State.regs write).trans rfl
  have size : n = val.toNat := rfl
  clear write
  clear_value t q r n p
  subst size
  have register : r = 0 ∨ r = 1 ∨ r = 2 ∨ r = 3 ∨ r = 4 ∨ r = 5 ∨ r = 6 ∨ r = 7 := by omega
  rcases register with rfl | rfl | rfl | rfl | rfl | rfl | rfl | rfl
  · obtain ⟨t', write, bits⟩ := p.regWrite_ctrl s.cart val
    rw [device, write]
    simp [*]
  · simp [*, Ppu.regWrite]
  · simp [*, Ppu.regWrite]
  · simp [*, Ppu.regWrite]
  · simp [*, Ppu.regWrite]
  · cases toggle : p.w with
    | false =>
      obtain ⟨t', x', write, coarse, fine⟩ := Ppu.regWrite_scroll_first s.cart toggle val
      simp [*]
    | true =>
      obtain ⟨t', write, bits⟩ := Ppu.regWrite_scroll_second s.cart toggle val
      simp [*]
  · cases toggle : p.w with
    | false =>
      obtain ⟨t', write, bits⟩ := Ppu.regWrite_addr_first s.cart toggle val
      simp [*]
    | true =>
      obtain ⟨t', write, bits⟩ := Ppu.regWrite_addr_second s.cart toggle val
      simp [*]
  · obtain ⟨_, _, write⟩ := p.regWrite_data s.cart val
    have step := p.increment_toNat
    simp [*]

end Sys2Proof.Machine
end

section
/-!
SUPPORT. O53: the two loops of the sprite evaluation as a filter and a search over sprite numbers, and the pattern row
of an entry (61_ppu.md R500, R501, R504).
-/

namespace Sys2Proof.Machine

/-! ### The range test -/

/-- The OAM byte `k` as a Y coordinate has the line in its range: the test of both loops (61_ppu.md R500). -/
def Ppu.reaches (p : Ppu) (k : Nat) : Bool := spriteInRange p.scanline (p.oamByte k).toNat p.spriteHeight

theorem Ppu.spriteHeight_eq (s : State) : s.ppu.spriteHeight = spriteRows s := by
  simp only [Ppu.spriteHeight, spriteRows, getLsbD_eq_decide, decide_eq_true_eq]
  rfl

theorem Ppu.reaches_eq (s : State) (k : Nat) : s.ppu.reaches k = spriteReaches s k := by
  have byte : s.ppu.oamByte k = cellByte s .oam k := rfl
  rw [Ppu.reaches, spriteInRange, spriteReaches, Ppu.spriteHeight_eq, byte, Bool.eq_iff_iff]
  simp only [Bool.and_eq_true, decide_eq_true_eq]
  omega

/-! ### The loops -/

/-- The first loop selects the first `room` sprites in range. -/
theorem Ppu.selectSprites_numbers (p : Ppu) (k n room : Nat) :
    (p.selectSprites k n room).1 = ((List.range' n k).filter fun i => p.reaches (4 * i)).take room := by
  induction k generalizing n room with
  | zero => exact List.take_nil.symm
  | succ k ih =>
    rw [Ppu.selectSprites, List.range'_succ, List.filter_cons]
    by_cases full : room = 0
    · rw [if_pos full, full, List.take_zero]
    obtain ⟨room, rfl⟩ := Nat.exists_eq_succ_of_ne_zero full
    rw [if_neg full, ← Ppu.reaches]
    split
    · exact congrArg (n :: ·) (ih (n + 1) room)
    · exact ih (n + 1) (room + 1)

theorem Ppu.selectSprites_full (p : Ppu) (k n : Nat) : (p.selectSprites k n 0).2 = n := by
  cases k <;> rfl

/-- With the list filled, the first loop stops after the sprite that filled it. -/
theorem Ppu.selectSprites_stop (p : Ppu) (k n room m : Nat)
    (filled : ((List.range' n k).filter fun i => p.reaches (4 * i))[room]? = some m) :
    (p.selectSprites k n (room + 1)).2 = m + 1 := by
  induction k generalizing n room with
  | zero => cases filled
  | succ k ih =>
    rw [List.range'_succ, List.filter_cons] at filled
    rw [Ppu.selectSprites, if_neg (Nat.succ_ne_zero room), ← Ppu.reaches]
    split
    next hit =>
      rw [if_pos hit] at filled
      cases room with
      | zero =>
        obtain rfl : n = m := by simpa using filled
        exact p.selectSprites_full k (n + 1)
      | succ room => exact ih (n + 1) room (by simpa using filled)
    next miss =>
      rw [if_neg miss] at filled
      exact ih (n + 1) room filled

/-- The second loop looks at one byte of each sprite, the byte's index moving on with the sprite. -/
theorem Ppu.overflowFound_eq (p : Ppu) (k n m : Nat) (byte : m < 4) :
    p.overflowFound k n m = (List.range k).any fun j => p.reaches (4 * (n + j) + (m + j) % 4) := by
  induction k generalizing n m with
  | zero => rfl
  | succ k ih =>
    have later (j : Nat) : 4 * (n + 1 + j) + ((m + 1) % 4 + j) % 4 = 4 * (n + (j + 1)) + (m + (j + 1)) % 4 := by omega
    rw [Ppu.overflowFound, ← Ppu.reaches, ih (n + 1) ((m + 1) % 4) (by omega), List.range_succ_eq_map, List.any_cons,
      List.any_map]
    simp only [later, Nat.add_zero, Nat.mod_eq_of_lt byte]
    split
    next hit => rw [hit, Bool.true_or]
    next miss =>
      rw [Bool.eq_false_iff.mpr miss, Bool.false_or]
      rfl

/-! ### The entry -/

theorem reverse8_eq (b : Byte) : reverse8 b = b.reverse := by
  revert b
  decide

/-- The row that an entry shows lies inside the sprite (61_ppu.md R500, R501). -/
theorem Ppu.spritePatAddr_eq (p : Ppu) (y tile attr : Byte) (low : y.toNat ≤ p.scanline)
    (high : p.scanline < y.toNat + p.spriteHeight) :
    let down := p.scanline - y.toNat
    let row := if 128 ≤ attr.toNat then p.spriteHeight - 1 - down else down
    p.spritePatAddr p.scanline y tile attr =
      if p.spriteHeight = 16 then tile.toNat % 2 * 0x1000 + tile.toNat / 2 * 32 + row / 8 * 16 + row % 8
      else p.ctrl.toNat / 8 % 2 * 0x1000 + tile.toNat * 16 + row := by
  intro down row
  have flip : attr.getLsbD 7 = true ↔ 128 ≤ attr.toNat := by
    rw [getLsbD_seven_eq_topBit, topBit, decide_eq_true_iff]
  have inside : row < p.spriteHeight := by
    simp only [row, down]
    split <;> omega
  have tall : p.ctrl.getLsbD 5 = true ↔ p.spriteHeight = 16 := by
    rw [Ppu.spriteHeight]
    split
    next set => exact iff_of_true set rfl
    next clear => exact iff_of_false clear (by decide)
  have short : p.spriteHeight = 16 ∨ p.spriteHeight = 8 := by
    rw [Ppu.spriteHeight]
    split <;> simp
  have bit {w : Nat} (v : BitVec w) (k : Nat) : (if v.getLsbD k = true then 0x1000 else 0) =
      v.toNat / 2 ^ k % 2 * 0x1000 := by
    simp only [getLsbD_eq_decide, decide_eq_true_iff]
    split <;> omega
  have rows : (if attr.getLsbD 7 = true then p.spriteHeight - 1 - (p.scanline - y.toNat) else p.scanline - y.toNat)
      = row := by
    simp only [flip, row, down]
  simp only [Ppu.spritePatAddr, rows, tall, bit, pow_zero, Nat.div_one]
  split
  · split <;> omega
  · rfl

/-- The entry of a sprite in range: its four bytes and its pattern (61_ppu.md R500, R501). -/
theorem Ppu.spriteEntry_pattern (s : State) (n : Nat) (hit : spriteSelected s n = true) :
    let e := s.ppu.spriteEntry s.cart n
    (e.lo, e.hi) = spritePattern s n := by
  obtain ⟨low, high⟩ : (cellByte s .oam (4 * n)).toNat ≤ s.ppu.scanline ∧
      s.ppu.scanline < (cellByte s .oam (4 * n)).toNat + spriteRows s := by
    simpa only [spriteSelected, spriteReaches, Bool.and_eq_true, decide_eq_true_eq] using hit
  have address := s.ppu.spritePatAddr_eq (cellByte s .oam (4 * n)) (cellByte s .oam (4 * n + 1))
    (cellByte s .oam (4 * n + 2)) low
    (Ppu.spriteHeight_eq s ▸ high)
  have mirror : (cellByte s .oam (4 * n + 2)).getLsbD 6 = true ↔ (cellByte s .oam (4 * n + 2)).toNat / 64 % 2 = 1 := by
    rw [getLsbD_eq_decide, decide_eq_true_iff]
    rfl
  rw [Ppu.spriteHeight_eq] at address
  have byte (k : Nat) : s.ppu.oamByte k = cellByte s .oam k := rfl
  simp only [Ppu.spriteEntry, byte, address, spritePattern, mirror, reverse8_eq]
  split <;> rfl

/-! ### The evaluation -/

section
variable {s : State} {p : Ppu} (reaches : ∀ k, p.reaches k = spriteReaches s k)
include reaches

theorem Ppu.selectSprites_found :
    (p.selectSprites 64 0 8).1 = ((List.range 64).filter (spriteSelected s)).take 8 := by
  rw [Ppu.selectSprites_numbers, List.range_eq_range', show (fun i => p.reaches (4 * i)) = spriteSelected s from
    funext fun i => reaches (4 * i)]

/-- The overflow loop runs from the sprite after the eighth one found, where there is one. -/
theorem Ppu.overflow_found :
    ((p.selectSprites 64 0 8).1.length == 8 &&
        p.overflowFound (64 - (p.selectSprites 64 0 8).2) (p.selectSprites 64 0 8).2 0) =
      match ((List.range 64).filter (spriteSelected s))[7]? with
      | some n => overflowSeen s (n + 1)
      | none => false := by
  have length : (p.selectSprites 64 0 8).1.length = min 8 ((List.range 64).filter (spriteSelected s)).length := by
    rw [Ppu.selectSprites_found reaches, List.length_take]
  cases eighth : ((List.range 64).filter (spriteSelected s))[7]? with
  | none =>
    have few := List.getElem?_eq_none_iff.mp eighth
    have short : ((p.selectSprites 64 0 8).1.length == 8) = false := by
      rw [beq_eq_false_iff_ne]
      omega
    rw [short, Bool.false_and]
  | some n =>
    obtain ⟨many, _⟩ := List.getElem?_eq_some_iff.mp eighth
    have full : ((p.selectSprites 64 0 8).1.length == 8) = true := by
      rw [beq_iff_eq]
      omega
    have stop : (p.selectSprites 64 0 8).2 = n + 1 := by
      refine p.selectSprites_stop 64 0 7 n ?_
      rwa [show (fun i => p.reaches (4 * i)) = spriteSelected s from funext fun i => reaches (4 * i),
        ← List.range_eq_range']
    rw [full, stop, Bool.true_and, Ppu.overflowFound_eq _ _ _ _ (by decide)]
    simp only [overflowSeen, reaches, Nat.zero_add]

end

theorem spriteZero_found (s : State) :
    (((List.range 64).filter (spriteSelected s)).take 8).contains 0 = spriteSelected s 0 := by
  cases zero : spriteSelected s 0 with
  | true =>
    rw [List.range_succ_eq_map, List.filter_cons_of_pos zero, List.take_succ_cons, List.contains_cons, beq_self_eq_true,
      Bool.true_or]
  | false =>
    rw [Bool.eq_false_iff]
    intro found
    have mem := List.mem_of_mem_take (List.contains_iff_mem.mp found)
    exact Bool.false_ne_true (zero.symm.trans (List.of_mem_filter mem))

/-- Dot 257 of a visible line with rendering: the background's stage, the evaluation, and OAMADDR cleared. -/
theorem Ppu.dotStep_of_evaluation {cfg : Params} (c : Cart) {p : Ppu} (full : cfg.sprites = .full)
    (rendering : p.rendering = true) (line : p.scanline < 240) (dot : p.dot = 257) :
    p.dotStep cfg c = ({ (p.background c).evaluateSprites c with oamaddr := 0 } : Ppu).advance := by
  obtain ⟨_, _, _, _, _, _, _, _, _, stage⟩ := Ppu.background_frame c p
  rw [Ppu.dotStep, Ppu.flagEvents_of_other (by omega) (by omega)]
  have evaluation : (p.background c).spriteStep cfg c = { (p.background c).evaluateSprites c with oamaddr := 0 } := by
    have on : (p.background c).rendering = true := by rw [stage]; exact rendering
    have line' : (p.background c).scanline < 240 := by rw [stage]; exact line
    have dot' : (p.background c).dot = 257 := by rw [stage]; exact dot
    have kept : ((p.background c).evaluateSprites c).dot = 257 := dot'
    rw [Ppu.spriteStep, if_pos ⟨on, .inl line'⟩]
    simp only [if_pos (show (p.background c).dot = 257 ∧ cfg.sprites = .full from ⟨dot', full⟩), if_pos line', kept]
    rfl
  rw [evaluation, Ppu.pixelStep_of_hidden]
  rw [stage]
  dsimp only [Ppu.evaluateSprites]
  omega

/-- Settles O53: the evaluation is that of the state before the dot, since the background's stage changes nothing it
reads. -/
theorem spriteEvaluation : Obligations.SpriteEvaluation := by
  unfold Obligations.SpriteEvaluation
  intro s full rendering line dot t found
  obtain ⟨_, _, _, _, _, _, _, _, _, stage⟩ := Ppu.background_frame s.cart s.ppu
  have step : t.ppu = _ := Ppu.dotStep_of_evaluation s.cart full rendering line dot
  obtain ⟨_, _, _, advance⟩ := Ppu.advance_frame
    { (s.ppu.background s.cart).evaluateSprites s.cart with oamaddr := 0 }
  have reaches (k : Nat) : (s.ppu.background s.cart).reaches k = spriteReaches s k := by
    rw [stage]
    exact Ppu.reaches_eq s k
  have entry : (s.ppu.background s.cart).spriteEntry s.cart = s.ppu.spriteEntry s.cart := by
    rw [stage]
    rfl
  have flag : (s.ppu.background s.cart).spriteOverflow = s.ppu.spriteOverflow := by rw [stage]
  have list : t.ppu.spr = (found.take 8).map (s.ppu.spriteEntry s.cart) := by
    rw [step, advance, ← entry, ← Ppu.selectSprites_found reaches]
    rfl
  refine ⟨?_, ?_, ?_, ?_, ?_⟩
  · rw [list, List.map_map]
    rfl
  · rw [list, List.map_map]
    refine List.map_congr_left fun n shown => ?_
    exact Ppu.spriteEntry_pattern s n (List.of_mem_filter (List.mem_of_mem_take shown))
  · rw [← spriteZero_found, ← Ppu.selectSprites_found reaches, step, advance]
    rfl
  · rw [step, advance]
  · rw [step, advance, ← flag]
    exact congrArg ((s.ppu.background s.cart).spriteOverflow || ·) (Ppu.overflow_found reaches)

end Sys2Proof.Machine
end

section
/-!
SUPPORT. O57 and O4: the start of a DMC sample, and the writes to the APU's registers in numbers (62_apu.md R540 to
R548, R561, R593).
-/

namespace Sys2Proof.Machine

/-- Settles O57: neither number overflows its register. -/
theorem dmcRestart : Obligations.DmcRestart := by
  unfold Obligations.DmcRestart
  intro d
  have address := d.sampleAddrReg.isLt
  have length := d.sampleLenReg.isLt
  have curAddr : d.restart.curAddr.toNat = 0xC000 + 64 * d.sampleAddrReg.toNat := by
    rw [Dmc.restart, BitVec.toNat_ofNat, Nat.mod_eq_of_lt (by omega)]
  have bytesLeft : d.restart.bytesLeft.toNat = 16 * d.sampleLenReg.toNat + 1 := by
    rw [Dmc.restart, BitVec.toNat_ofNat, Nat.mod_eq_of_lt (by omega)]
  exact ⟨curAddr, bytesLeft, by omega, by omega, by omega, by omega⟩

/-! ### Fields of a byte in numbers -/

theorem getLsbD_seven_eq_decide (v : Byte) : v.getLsbD 7 = decide (128 ≤ v.toNat) := getLsbD_seven_eq_topBit v

/-- A field of a byte in the number of its bits. -/
theorem extractLsb'_eq_ofNat {w : Nat} (v : BitVec w) (start len : Nat) :
    v.extractLsb' start len = BitVec.ofNat len (v.toNat / 2 ^ start % 2 ^ len) := by
  apply BitVec.eq_of_toNat_eq
  rw [extractLsb'_toNat_div, BitVec.toNat_ofNat, Nat.mod_mod]

/-- The 32 lengths are all in the table. -/
theorem lengthSelected_eq (v : Byte) : some (lenLoad v) = lengthSelected v := by
  have all : ∀ i : Fin 32,
      some (BitVec.ofNat 8 (tableAt lenTable i)) = (lenTable[i.val]?).map fun n => BitVec.ofNat 8 n := by
    decide
  exact all ⟨v.toNat / 8, by omega⟩

theorem setPeriodLow_eq (v : Byte) (p : BitVec 11) : setPeriodLow v p = periodLow v p := by
  apply BitVec.eq_of_toNat_eq
  rw [setPeriodLow, periodLow, toNat_append_eq, extractLsb'_toNat_div, BitVec.toNat_ofNat]
  omega

theorem setPeriodHigh_eq (v : Byte) (p : BitVec 11) : setPeriodHigh v p = periodHigh v p := by
  apply BitVec.eq_of_toNat_eq
  rw [setPeriodHigh, periodHigh, toNat_append_eq, extractLsb'_toNat_div, extractLsb'_toNat_div, BitVec.toNat_ofNat]
  omega

theorem Envelope.control_eq (v : Byte) (e : Envelope) : e.control v = envelopeWritten v e := by
  simp only [Envelope.control, envelopeWritten, getLsbD_eq_decide, extractLsb'_eq_ofNat, pow_zero, Nat.div_one]
  rfl

/-! ### The channels' registers -/

theorem Pulse.write_eq (r : Nat) (v : Byte) (p : Pulse) : p.write r v = pulseWritten r v p := by
  match r with
  | 0 =>
    have duty : v.extractLsb' 6 2 = BitVec.ofNat 2 (v.toNat / 64) := by
      rw [extractLsb'_eq_ofNat, Nat.mod_eq_of_lt (by omega)]
      rfl
    simp only [Pulse.write, pulseWritten]
    rw [duty, Length.setHalt, getLsbD_eq_decide, Envelope.control_eq]
    rfl
  | 1 =>
    simp only [Pulse.write, pulseWritten]
    rw [getLsbD_seven_eq_decide, getLsbD_eq_decide, extractLsb'_eq_ofNat, extractLsb'_eq_ofNat, pow_zero, Nat.div_one]
    rfl
  | 2 =>
    simp only [Pulse.write, pulseWritten]
    rw [setPeriodLow_eq]
  | _ + 3 =>
    simp only [Pulse.write, pulseWritten]
    rw [setPeriodHigh_eq, Length.load, lengthSelected_eq]

theorem Triangle.write_eq (r : Nat) (v : Byte) (t : Triangle) : t.write r v = triangleWritten r v t := by
  match r with
  | 0 =>
    simp only [Triangle.write, triangleWritten]
    rw [getLsbD_seven_eq_decide, extractLsb'_eq_ofNat, pow_zero, Nat.div_one]
    rfl
  | 1 => rfl
  | 2 =>
    simp only [Triangle.write, triangleWritten]
    rw [setPeriodLow_eq]
  | _ + 3 =>
    simp only [Triangle.write, triangleWritten]
    rw [setPeriodHigh_eq, Length.load, lengthSelected_eq]

theorem Noise.write_eq (r : Nat) (v : Byte) (n : Noise) : n.write r v = noiseWritten r v n := by
  match r with
  | 0 =>
    simp only [Noise.write, noiseWritten]
    rw [Length.setHalt, getLsbD_eq_decide, Envelope.control_eq]
    rfl
  | 1 => rfl
  | 2 =>
    simp only [Noise.write, noiseWritten]
    rw [getLsbD_seven_eq_decide, extractLsb'_eq_ofNat, pow_zero, Nat.div_one]
    rfl
  | _ + 3 =>
    simp only [Noise.write, noiseWritten]
    rw [Length.load, lengthSelected_eq]

theorem Dmc.write_eq (r : Nat) (v : Byte) (d : Dmc) : d.write r v = dmcWritten r v d := by
  match r with
  | 0 =>
    have irq (on : Bool) : (if on = true then d.dmcIrq else false) = (d.dmcIrq && on) := by
      cases on <;> simp
    simp only [Dmc.write, dmcWritten]
    rw [irq, getLsbD_seven_eq_decide, getLsbD_eq_decide, extractLsb'_eq_ofNat, pow_zero, Nat.div_one]
    rfl
  | 1 =>
    simp only [Dmc.write, dmcWritten]
    rw [extractLsb'_eq_ofNat, pow_zero, Nat.div_one]
    rfl
  | 2 => rfl
  | _ + 3 => rfl

/-! ### 0x4015 -/

theorem Length.enable_eq (on : Bool) (l : Length) : l.enable on = lengthEnabled on l := by
  cases on <;> rfl

/-- The DMC bit starts a sample only where none plays (62_apu.md R561, R593). -/
theorem Dmc.enable_eq (on : Bool) (d : Dmc) : d.enable on =
    let starts := on && decide (d.bytesLeft.toNat = 0)
    { d with
      bytesLeft := if starts then BitVec.ofNat 12 (16 * d.sampleLenReg.toNat + 1) else if on then d.bytesLeft else 0
      curAddr := if starts then BitVec.ofNat 16 (0xC000 + 64 * d.sampleAddrReg.toNat) else d.curAddr
      dmcIrq := false } := by
  have empty : d.bytesLeft = 0 ↔ d.bytesLeft.toNat = 0 := BitVec.toNat_eq
  cases on with
  | false => rfl
  | true =>
    by_cases done : d.bytesLeft.toNat = 0
    · simp only [Dmc.enable, if_true, if_pos (empty.mpr done), decide_eq_true done, Bool.and_self, Dmc.restart]
    · simp only [Dmc.enable, if_true, if_neg (mt empty.mp done), decide_eq_false done, Bool.and_false,
      Bool.false_eq_true,
        if_false]

theorem Apu.statusWrite_eq (v : Byte) (a : Apu) : a.statusWrite v = statusWritten v a := by
  simp only [Apu.statusWrite, statusWritten, Length.enable_eq, Dmc.enable_eq, getLsbD_eq_decide]

/-- Settles O4: the decoder's channel and register, then the register in numbers. -/
theorem apuRegisterWrites : Obligations.ApuRegisterWrites := by
  unfold Obligations.ApuRegisterWrites
  intro s a v console t n apu
  have channel (low : 0x4000 ≤ n) (high : n < 0x4014) : t = { s with apu := apu.write (n - 0x4000) v } :=
    busWrite_apu v console low high
  have register (low : 0x4000 ≤ n) : (n - 0x4000) % 4 = n % 4 := by omega
  refine ⟨fun ⟨low, high⟩ => ?_, fun ⟨low, high⟩ => ?_, fun ⟨low, high⟩ => ?_, fun ⟨low, high⟩ => ?_,
    fun ⟨low, high⟩ => ?_, fun dma => ?_, fun status => ?_⟩
  · rw [channel low (by omega), Apu.write, show (n - 0x4000) / 4 = 0 by omega, ← Pulse.write_eq, register low]
    rfl
  · rw [channel (by omega) (by omega), Apu.write, show (n - 0x4000) / 4 = 1 by omega, ← Pulse.write_eq,
      register (by omega)]
    rfl
  · rw [channel (by omega) (by omega), Apu.write, show (n - 0x4000) / 4 = 2 by omega, ← Triangle.write_eq,
      register (by omega)]
    rfl
  · rw [channel (by omega) (by omega), Apu.write, show (n - 0x4000) / 4 = 3 by omega, ← Noise.write_eq,
      register (by omega)]
    rfl
  · rw [channel (by omega) (by omega), Apu.write, show (n - 0x4000) / 4 = 4 by omega, ← Dmc.write_eq,
      register (by omega)]
    rfl
  · simp only [t, busWrite, console, consoleWrite, show a.toNat = 0x4014 from dma]
    rfl
  · rw [← Apu.statusWrite_eq]
    simp only [t, busWrite, console, consoleWrite, show a.toNat = 0x4015 from status]
    rfl

end Sys2Proof.Machine
end

section
/-!
SUPPORT. O55, O56 and O6: one tick of the APU as the event of its sequencer, and what that event does to each part of a
channel (62_apu.md R550 to R565, R571 to R573, R581).
-/

namespace Sys2Proof.Machine

/-! ### The sequencer's event -/

/-- What the sequencer does in this tick (62_apu.md R551, R552). -/
def Apu.event (cfg : Params) (a : Apu) : SeqEvent :=
  match a.fcPending with
  | some (val, 0) => if val.getLsbD 7 then .quarterHalf else .none
  | some (_, _ + 1) => frameEvent (a.offsets cfg) (a.fc + 1)
  | none => frameEvent (a.offsets cfg) (a.fc + 1)

/-- The tick in which a delayed write takes effect (62_apu.md R551). -/
theorem Apu.sequencer_delayed (cfg : Params) {a : Apu} {val : Byte} (delayed : a.fcPending = some (val, 0)) :
    a.sequencer cfg = ({ (a.clockEvent (a.event cfg)).1 with fcPending := none, fcMode := val.getLsbD 7, fc := 0 },
      (a.clockEvent (a.event cfg)).2) := by
  unfold Apu.sequencer Apu.event
  rw [delayed]
  dsimp only
  split <;> rfl

theorem Apu.frameStep_eq (cfg : Params) (a : Apu) :
    let e := a.clockEvent (frameEvent (a.offsets cfg) (a.fc + 1))
    let last := a.fc + 1 = (a.offsets cfg).o4
    a.frameStep cfg = ({ e.1 with
      fc := if last then 0 else a.fc + 1
      frameIrq := a.frameIrq || (decide last && !a.fcMode && !a.irqInhibit) }, e.2) := by
  have offsets : ({ a with fc := a.fc + 1 } : Apu).offsets cfg = a.offsets cfg := rfl
  simp only [Apu.frameStep, offsets]
  split
  next last =>
    rw [decide_eq_true last, Bool.true_and]
    cases frameEvent (a.offsets cfg) (a.fc + 1) <;> rfl
  next more =>
    rw [decide_eq_false more, Bool.false_and, Bool.false_and, Bool.or_false]
    cases frameEvent (a.offsets cfg) (a.fc + 1) <;> rfl

theorem Apu.clockEvent_pending (a : Apu) (q : Option (Byte × Nat)) (e : SeqEvent) :
    ({ a with fcPending := q } : Apu).clockEvent e =
      ({ (a.clockEvent e).1 with fcPending := q }, (a.clockEvent e).2) := by
  cases e <;> rfl

theorem Apu.clockEvent_fcPending (a : Apu) (e : SeqEvent) : (a.clockEvent e).1.fcPending = a.fcPending := by
  cases e <;> rfl

/-- Every other tick counts (62_apu.md R550, R552, R553). -/
theorem Apu.sequencer_counting (cfg : Params) {a : Apu} (counting : ∀ val, a.fcPending ≠ some (val, 0)) :
    let last := a.fc + 1 = (a.offsets cfg).o4
    a.sequencer cfg = ({ (a.clockEvent (a.event cfg)).1 with
      fcPending := a.fcPending.map fun q => (q.1, q.2 - 1)
      fc := if last then 0 else a.fc + 1
      frameIrq := a.frameIrq || (decide last && !a.fcMode && !a.irqInhibit) }, (a.clockEvent (a.event cfg)).2) := by
  intro last
  match pending : a.fcPending with
  | some (val, 0) => exact absurd pending (counting val)
  | some (val, k + 1) =>
    simp only [Apu.sequencer, Apu.event, pending, Apu.frameStep_eq, Apu.clockEvent_pending]
    rfl
  | none =>
    simp only [Apu.sequencer, Apu.event, pending, Apu.frameStep_eq, Apu.clockEvent_fcPending]
    rfl

/-! ### The tick -/

theorem Apu.clockEvent_phase (a : Apu) (phase : Bool) (e : SeqEvent) :
    ({ a with phase := phase } : Apu).clockEvent e =
      ({ (a.clockEvent e).1 with phase := phase }, (a.clockEvent e).2) := by
  cases e <;> rfl

theorem Apu.sequencer_phase (cfg : Params) (a : Apu) (phase : Bool) :
    ({ a with phase := phase } : Apu).sequencer cfg =
      ({ (a.sequencer cfg).1 with phase := phase }, (a.sequencer cfg).2) := by
  have event : ({ a with phase := phase } : Apu).event cfg = a.event cfg := rfl
  by_cases delayed : ∃ val, a.fcPending = some (val, 0)
  · obtain ⟨val, delayed⟩ := delayed
    rw [Apu.sequencer_delayed cfg delayed, Apu.sequencer_delayed (a := { a with phase := phase }) cfg delayed, event,
      Apu.clockEvent_phase]
  · have counting (val : Byte) : a.fcPending ≠ some (val, 0) := fun now => delayed ⟨val, now⟩
    rw [Apu.sequencer_counting cfg counting, Apu.sequencer_counting (a := { a with phase := phase }) cfg counting,
      event, Apu.clockEvent_phase]
    rfl

/-- Whether a tick changes the mode or counts, the channels and the decremented counters are those of its event. -/
theorem Apu.sequencer_frame (cfg : Params) (a : Apu) : ∃ fc mode irq pending,
    a.sequencer cfg = ({ (a.clockEvent (a.event cfg)).1 with
      fc := fc, fcMode := mode, frameIrq := irq, fcPending := pending }, (a.clockEvent (a.event cfg)).2) := by
  by_cases delayed : ∃ val, a.fcPending = some (val, 0)
  · obtain ⟨val, delayed⟩ := delayed
    exact ⟨_, _, _, _, Apu.sequencer_delayed cfg delayed⟩
  · exact ⟨_, _, _, _, Apu.sequencer_counting cfg fun val now => delayed ⟨val, now⟩⟩

/-- A bus read changes the APU's frame interrupt alone, and that only at 0x4015 (62_apu.md R562). -/
theorem busRead_apu (addr : Addr) (s : State) : ∃ irq, (busRead addr s).2.apu = { s.apu with frameIrq := irq } ∧
    (0x4020 ≤ addr.toNat → irq = s.apu.frameIrq) := by
  by_cases status : s.cfg.busMode = .console ∧ addr.toNat = 0x4015
  · rw [busRead_status status.1 status.2]
    exact ⟨false, rfl, fun low => by omega⟩
  refine ⟨s.apu.frameIrq, ?_, fun _ => rfl⟩
  unfold busRead
  split
  next console =>
    have elsewhere : addr.toNat ≠ 0x4015 := fun at_ => status ⟨console, at_⟩
    unfold consoleRead
    simp only [if_neg elsewhere]
    (repeat' split)
    case _ => rfl
    case _ => rfl
    case _ => rfl
    case _ => exact (sameDevices_padRead false s).apu
    case _ => exact (sameDevices_padRead true s).apu
    case _ => rfl
    case _ => rfl
  next => rfl

theorem dmcReader_apu (s : State) : ∃ d irq, (dmcReader s).apu = { s.apu with dmc := d, frameIrq := irq } ∧
    (0x4020 ≤ s.apu.dmc.curAddr.toNat → irq = s.apu.frameIrq) := by
  unfold dmcReader
  split
  · obtain ⟨irq, read, kept⟩ := busRead_apu s.apu.dmc.curAddr { s with stall := s.stall + s.cfg.dmcStallCycles }
    exact ⟨_, irq, by dsimp only; rw [read], kept⟩
  · exact ⟨_, _, rfl, fun _ => rfl⟩

/-- The head of the tick: the event's clocks, then the timers, the pulses' in every other tick (62_apu.md R550). -/
theorem Apu.tickHead_channels (cfg : Params) (a : Apu) :
    let c := a.clockEvent (a.event cfg)
    let h := a.tickHead cfg
    h.1.pulse1 = (if a.phase then c.1.pulse1 else c.1.pulse1.clockTimer) ∧
      h.1.pulse2 = (if a.phase then c.1.pulse2 else c.1.pulse2.clockTimer) ∧
      h.1.triangle = c.1.triangle.clockTimer ∧ h.1.noise = c.1.noise.clockTimer cfg.region ∧ h.1.phase = !a.phase ∧
      h.2 = c.2 := by
  intro c h
  obtain ⟨_, _, _, _, sequencer⟩ := a.sequencer_frame cfg
  have head : h = ((({ a with phase := !a.phase } : Apu).sequencer cfg).1.timers cfg.region,
      (({ a with phase := !a.phase } : Apu).sequencer cfg).2) := rfl
  rw [Apu.sequencer_phase, sequencer] at head
  rw [head]
  refine ⟨?_, ?_, rfl, rfl, rfl, rfl⟩ <;> cases a.phase <;> rfl

/-- The channels of the APU after a tick: the event's clocks, the timers, and the commit of the length counters. -/
theorem apuTick_channels (s : State) :
    let c := s.apu.clockEvent (s.apu.event s.cfg)
    let t := (apuTick s).apu
    t.pulse1 = { (if s.apu.phase then c.1.pulse1 else c.1.pulse1.clockTimer) with
      lc := c.1.pulse1.lc.commit c.2.pulse1 } ∧
    t.pulse2 = { (if s.apu.phase then c.1.pulse2 else c.1.pulse2.clockTimer) with
      lc := c.1.pulse2.lc.commit c.2.pulse2 } ∧
    t.triangle = { c.1.triangle.clockTimer with lc := c.1.triangle.lc.commit c.2.triangle } ∧
    t.noise = { c.1.noise.clockTimer s.cfg.region with lc := c.1.noise.lc.commit c.2.noise } ∧
    t.phase = !s.apu.phase ∧ t.sample = t.mix s.cfg.mixer := by
  intro c t
  obtain ⟨pulse1, pulse2, triangle, noise, phase, decremented⟩ := s.apu.tickHead_channels s.cfg
  obtain ⟨d, irq, reader, -⟩ := dmcReader_apu { s with apu := (s.apu.tickHead s.cfg).1 }
  have cfg := (dmcReader_dmc { s with apu := (s.apu.tickHead s.cfg).1 }).1
  have tick : t = ({ (s.apu.tickHead s.cfg).1 with dmc := d, frameIrq := irq } : Apu).tickTail s.cfg
      (s.apu.tickHead s.cfg).2 := by
    simp only [t, apuTick, reader, cfg]
  clear_value t
  have kept (p : Pulse) : (if s.apu.phase then p else p.clockTimer).lc = p.lc := by
    unfold Pulse.clockTimer
    split
    · rfl
    · split <;> rfl
  have keptTriangle := c.1.triangle.clockTimer_fields.2.2.2
  have keptNoise := (c.1.noise.clockTimer_fields s.cfg.region).2.2.2
  rw [tick]
  refine ⟨?_, ?_, ?_, ?_, phase, rfl⟩
  · rw [← kept c.1.pulse1, ← pulse1, ← decremented]
    rfl
  · rw [← kept c.1.pulse2, ← pulse2, ← decremented]
    rfl
  · rw [← keptTriangle, ← triangle, ← decremented]
    rfl
  · rw [← keptNoise, ← noise, ← decremented]
    rfl

end Sys2Proof.Machine
end

section
/-!
SUPPORT. O55, O56 and O6: the frame sequencer's counter and interrupt, and the parts of a channel its event clocks, in
numbers (62_apu.md R549 to R555, R563 to R565, R571 to R573, R581).
-/

namespace Sys2Proof.Machine

/-! ### The frame counter -/

/-- The sequencer's fields after a tick are the sequencer's, where the DMC does not read 0x4015. -/
theorem apuTick_sequencer {s : State} (address : 0x8000 ≤ s.apu.dmc.curAddr.toNat) :
    let t := (apuTick s).apu
    let q := (s.apu.sequencer s.cfg).1
    t.fc = q.fc ∧ t.fcMode = q.fcMode ∧ t.fcPending = q.fcPending ∧ t.frameIrq = q.frameIrq := by
  intro t q
  obtain ⟨d, irq, reader, kept⟩ := dmcReader_apu { s with apu := (s.apu.tickHead s.cfg).1 }
  have low : 0x4020 ≤ (s.apu.tickHead s.cfg).1.dmc.curAddr.toNat := by
    obtain ⟨-, -, -, -, -, curAddr, -⟩ := Dmc.clockTimer_fields s.cfg.region s.apu.dmc
    rw [tickHead_dmc, curAddr]
    omega
  have cfg := (dmcReader_dmc { s with apu := (s.apu.tickHead s.cfg).1 }).1
  have tick : t = ({ (s.apu.tickHead s.cfg).1 with dmc := d, frameIrq := irq } : Apu).tickTail s.cfg
      (s.apu.tickHead s.cfg).2 := by
    simp only [t, apuTick, reader, cfg]
  have head : (s.apu.tickHead s.cfg).1 = (({ s.apu with phase := !s.apu.phase } : Apu).sequencer s.cfg).1.timers
      s.cfg.region := rfl
  rw [tick, kept low, head, Apu.sequencer_phase]
  exact ⟨rfl, rfl, rfl, rfl⟩

/-- The byte of a 0x4017 write (62_apu.md R549). -/
theorem Apu.frameCounterWrite_eq (cycles : Nat) (v : Byte) (a : Apu) : a.frameCounterWrite cycles v = { a with
    irqInhibit := decide (64 ≤ v.toNat % 128)
    frameIrq := a.frameIrq && decide (v.toNat % 128 < 64)
    fcPending := some (v, if cycles % 2 = 0 then 3 else 4) } := by
  have inhibit : v.getLsbD 6 = decide (64 ≤ v.toNat % 128) := by
    rw [getLsbD_eq_decide, decide_eq_decide]
    omega
  have clear : decide (v.toNat % 128 < 64) = !decide (64 ≤ v.toNat % 128) := by
    rw [← decide_not, decide_eq_decide, Nat.not_le]
  rw [Apu.frameCounterWrite, inhibit, clear]
  cases decide (64 ≤ v.toNat % 128) <;> simp

/-- Settles O55: the write by `Apu.frameCounterWrite_eq`, a tick by the sequencer's two cases. -/
theorem frameSequencer : Obligations.FrameSequencer := by
  unfold Obligations.FrameSequencer
  refine ⟨fun s v console => ?_, fun s console address => ?_⟩
  · have write : busWrite 0x4017#16 v s = { s with apu := s.apu.frameCounterWrite s.cycles v } := by
      simp [busWrite, console, consoleWrite]
    rw [write, Apu.frameCounterWrite_eq]
    exact ⟨rfl, rfl, rfl, rfl, rfl⟩
  · obtain ⟨fc, mode, pending, irq⟩ := apuTick_sequencer address
    dsimp only at fc mode pending irq ⊢
    rw [fc, mode, pending, irq]
    refine ⟨fun v delayed => ?_, fun counting => ?_⟩
    · rw [Apu.sequencer_delayed s.cfg delayed]
      refine ⟨rfl, rfl, getLsbD_seven_eq_decide v, ?_⟩
      cases s.apu.event s.cfg <;> rfl
    · have offsets : (if s.apu.fcMode = true then s.cfg.fcOffsets5.o4 else s.cfg.fcOffsets4.o4) =
          (s.apu.offsets s.cfg).o4 := by
        unfold Apu.offsets
        split <;> rfl
      rw [Apu.sequencer_counting s.cfg counting, offsets]
      refine ⟨rfl, ?_, rfl, rfl⟩
      cases s.apu.event s.cfg <;> rfl

/-! ### The event's clocks -/

/-- The event clocks the envelopes and the linear counter (62_apu.md R554). -/
def SeqEvent.quarters : SeqEvent → Bool
  | .none => false
  | .quarter => true
  | .quarterHalf => true

/-- The event clocks the length counters and the sweeps (62_apu.md R555). -/
def SeqEvent.halves : SeqEvent → Bool
  | .none => false
  | .quarter => false
  | .quarterHalf => true

theorem frameEvent_clocks {o : FcOffsets} (wf : o.wellFormed = true) (fc : Nat) :
    (frameEvent o fc).quarters = [o.o1, o.o2, o.o3, o.o4].contains fc ∧
      (frameEvent o fc).halves = (fc == o.o2 || fc == o.o4) := by
  simp only [FcOffsets.wellFormed, Bool.and_eq_true, decide_eq_true_eq] at wf
  unfold frameEvent
  (repeat' split) <;> simp [SeqEvent.quarters, SeqEvent.halves, *]
  all_goals omega

theorem Apu.offsets_wellFormed {cfg : Params} (wf : cfg.wellFormed = true) (a : Apu) :
    (a.offsets cfg).wellFormed = true := by
  simp only [Params.wellFormed, Bool.and_eq_true] at wf
  obtain ⟨⟨⟨four, five⟩, -⟩, -⟩ := wf
  unfold Apu.offsets
  split
  · exact five
  · exact four

theorem clocked_eq (s : State) (wf : s.cfg.wellFormed = true) :
    quarterClocked s = (s.apu.event s.cfg).quarters ∧ halfClocked s = (s.apu.event s.cfg).halves := by
  obtain ⟨quarters, halves⟩ := frameEvent_clocks (s.apu.offsets_wellFormed wf) (s.apu.fc + 1)
  unfold quarterClocked halfClocked Apu.event
  match pending : s.apu.fcPending with
  | some (val, 0) =>
    simp only
    rw [← getLsbD_seven_eq_decide]
    cases val.getLsbD 7 <;> exact ⟨rfl, rfl⟩
  | some (val, k + 1) => exact ⟨quarters.symm, halves.symm⟩
  | none => exact ⟨quarters.symm, halves.symm⟩

/-! ### Length counters -/

/-- A length counter in a tick: the half-frame clock, if the event has one, then the commit. -/
def Length.tick (half : Bool) (l : Length) : Length :=
  (if half then l.clock.1 else l).commit (half && l.clock.2)

/-- The clock decrements a counter that neither is 0 nor halts (62_apu.md R563). -/
theorem Length.clock_fields (l : Length) : ∃ len, l.clock = ({ l with len := len }, l.len != 0 && !l.halt) ∧
    len.toNat = l.len.toNat - (l.len != 0 && !l.halt).toNat := by
  have runs : (l.len != 0 && !l.halt) = true ↔ l.len ≠ 0 ∧ l.halt = false := by simp
  unfold Length.clock
  split
  next running =>
    refine ⟨l.len - 1, by rw [runs.mpr running], ?_⟩
    rw [runs.mpr running, Bool.toNat_true]
    bv_omega
  next still =>
    have off : (l.len != 0 && !l.halt) = false := Bool.eq_false_iff.mpr (mt runs.mp still)
    exact ⟨l.len, by rw [off], by rw [off]; rfl⟩

/-- What the tick leaves of a counter, in the words of the statement. -/
theorem Length.ticked (half : Bool) (l : Length) : Length.Ticked half l (l.tick half) := by
  obtain ⟨len, clock, value⟩ := l.clock_fields
  have before : (if half then l.clock.1 else l).len.toNat = l.len.toNat - (half && l.len != 0 && !l.halt).toNat := by
    cases half
    · rfl
    · simpa only [clock, if_true, Bool.true_and] using value
  have same : (if half then l.clock.1 else l) = { l with len := (if half then l.clock.1 else l).len } := by
    cases half
    · rfl
    · simp only [clock, if_true]
  have decremented : (half && l.clock.2) = (half && l.len != 0 && !l.halt) := by
    rw [clock, Bool.and_assoc]
  rw [Length.tick, decremented, same]
  refine ⟨rfl, rfl, rfl, rfl, ?_⟩
  simp only [Length.commit]
  cases l.pendingLen with
  | none => exact before
  | some n =>
    simp only [Bool.and_eq_true, Bool.not_eq_true', apply_ite BitVec.toNat, before]

theorem apuTick_lengths (s : State) :
    let half := (s.apu.event s.cfg).halves
    let t := (apuTick s).apu
    t.pulse1.lc = s.apu.pulse1.lc.tick half ∧ t.pulse2.lc = s.apu.pulse2.lc.tick half ∧
      t.triangle.lc = s.apu.triangle.lc.tick half ∧ t.noise.lc = s.apu.noise.lc.tick half := by
  intro half t
  obtain ⟨pulse1, pulse2, triangle, noise, -⟩ := apuTick_channels s
  refine ⟨(congrArg Pulse.lc pulse1).trans ?_, (congrArg Pulse.lc pulse2).trans ?_,
    (congrArg Triangle.lc triangle).trans ?_, (congrArg Noise.lc noise).trans ?_⟩ <;>
    simp only [half] <;> cases s.apu.event s.cfg <;> rfl

/-- Settles O56. -/
theorem lengthCounterTick : Obligations.LengthCounterTick := by
  unfold Obligations.LengthCounterTick
  intro s console wf
  obtain ⟨pulse1, pulse2, triangle, noise⟩ := apuTick_lengths s
  rw [(clocked_eq s wf).2, pulse1, pulse2, triangle, noise]
  exact ⟨Length.ticked _ _, Length.ticked _ _, Length.ticked _ _, Length.ticked _ _⟩

/-! ### Envelopes, sweeps and the linear counter -/

theorem pred_eq_ofNat {w : Nat} (v : BitVec w) (positive : v.toNat ≠ 0) : v - 1 = BitVec.ofNat w (v.toNat - 1) := by
  have range := v.isLt
  have one : (1 : BitVec w).toNat = 1 := (BitVec.toNat_ofNat 1 w).trans (Nat.mod_eq_of_lt (by omega))
  apply BitVec.eq_of_toNat_eq
  rw [BitVec.toNat_sub, BitVec.toNat_ofNat, one, show 2 ^ w - 1 + v.toNat = 2 ^ w + (v.toNat - 1) by omega,
    Nat.add_mod_left]

theorem Envelope.clock_eq (halt : Bool) (e : Envelope) : e.clock halt = envelopeClocked halt e := by
  have div : e.div = 0 ↔ e.div.toNat = 0 := BitVec.toNat_eq
  have decay : (if e.decay ≠ 0 then e.decay - 1 else if halt then 15 else e.decay) =
      if 0 < e.decay.toNat then BitVec.ofNat 4 (e.decay.toNat - 1) else if halt then 15 else 0 := by
    by_cases done : e.decay = 0
    · simp [done]
    · have positive : e.decay.toNat ≠ 0 := fun zero => done (BitVec.eq_of_toNat_eq zero)
      rw [if_pos done, if_pos (Nat.pos_of_ne_zero positive), pred_eq_ofNat _ positive]
  unfold Envelope.clock envelopeClocked
  simp only [div, decay]
  split
  · rfl
  split
  · rfl
  next running => rw [pred_eq_ofNat _ running]

theorem Pulse.target_eq (one : Bool) (p : Pulse) : p.target one = sweepTarget one p := by
  have change : (p.period >>> p.swShift.toNat).toNat = p.period.toNat / 2 ^ p.swShift.toNat := by
    rw [BitVec.toNat_ushiftRight, Nat.shiftRight_eq_div_pow]
  simp only [Pulse.target, sweepTarget, change]
  cases p.swNeg <;> cases one <;> simp

theorem Pulse.muted_eq (one : Bool) (p : Pulse) : p.muted one = pulseMuted one p := by
  simp only [Pulse.muted, pulseMuted, Pulse.target_eq, gt_iff_lt]

/-- A sweep that changes the period has a target inside the period's range. -/
theorem sweepTarget_nonneg (one : Bool) {p : Pulse} (shift : p.swShift.toNat ≠ 0) (audible : 8 ≤ p.period.toNat) :
    0 ≤ sweepTarget one p := by
  have half : p.period.toNat / 2 ^ p.swShift.toNat ≤ p.period.toNat / 2 :=
    Nat.div_le_div_left (Nat.le_self_pow shift 2) (by decide)
  unfold sweepTarget
  dsimp only
  generalize p.period.toNat / 2 ^ p.swShift.toNat = change at half
  split
  · split <;> omega
  · omega

theorem Pulse.clockSweep_eq (one : Bool) (p : Pulse) : p.clockSweep one = sweepClocked one p := by
  have zero : p.swDiv = 0 ↔ p.swDiv.toNat = 0 := BitVec.toNat_eq
  have shift : p.swShift ≠ 0 ↔ p.swShift.toNat ≠ 0 := not_congr BitVec.toNat_eq
  have period : (p.clockSweep one).period = (sweepClocked one p).period := by
    simp only [Pulse.clockSweep, sweepClocked, zero, shift, Pulse.muted_eq, Pulse.target_eq]
    split
    next sweeps =>
      obtain ⟨-, -, shifted, audible⟩ := sweeps
      obtain ⟨n, value⟩ := Int.eq_ofNat_of_zero_le
        (sweepTarget_nonneg one shifted (by simp [pulseMuted] at audible; omega))
      rw [value]
      rfl
    · rfl
  have divider : (p.clockSweep one).swDiv = (sweepClocked one p).swDiv := by
    simp only [Pulse.clockSweep, sweepClocked, zero]
    split
    · rfl
    next running => exact pred_eq_ofNat _ fun done => running (.inl done)
  have reload : (p.clockSweep one).swReload = (sweepClocked one p).swReload := by
    simp only [Pulse.clockSweep, sweepClocked]
    split
    · rfl
    next idle => exact Bool.eq_false_iff.mpr fun set => idle (.inr set)
  calc p.clockSweep one
      = { p with period := (p.clockSweep one).period, swDiv := (p.clockSweep one).swDiv
                 swReload := (p.clockSweep one).swReload } := rfl
    _ = sweepClocked one p := by rw [period, divider, reload]; rfl

theorem Triangle.clockLinear_eq (t : Triangle) : t.clockLinear = linearClocked t := by
  have lin : (if t.lin ≠ 0 then t.lin - 1 else t.lin) = BitVec.ofNat 7 (t.lin.toNat - 1) := by
    split
    next running => exact pred_eq_ofNat _ fun zero => running (BitVec.eq_of_toNat_eq zero)
    next done =>
      rw [not_not.mp done]
      rfl
  have reload : (if t.control then t.linReload else false) = (t.linReload && t.control) := by
    cases t.control <;> simp
  rw [Triangle.clockLinear, lin, reload]
  rfl

/-- The event's clocks of the channels with an envelope, a sweep or a linear counter. -/
theorem Apu.clockEvent_parts (a : Apu) (e : SeqEvent) :
    let c := (a.clockEvent e).1
    let envelope := fun (l : Length) (v : Envelope) => if e.quarters then envelopeClocked l.halt v else v
    let sweep := fun (one : Bool) (p : Pulse) => if e.halves then sweepClocked one p else p
    let linear := if e.quarters then linearClocked a.triangle else a.triangle
    c.pulse1 = { sweep true a.pulse1 with env := envelope a.pulse1.lc a.pulse1.env, lc := c.pulse1.lc } ∧
      c.pulse2 = { sweep false a.pulse2 with env := envelope a.pulse2.lc a.pulse2.env, lc := c.pulse2.lc } ∧
      c.noise = { a.noise with env := envelope a.noise.lc a.noise.env, lc := c.noise.lc } ∧
      c.triangle = { linear with lc := c.triangle.lc } := by
  dsimp only
  simp only [← Envelope.clock_eq, ← Pulse.clockSweep_eq, ← Triangle.clockLinear_eq]
  cases e <;> exact ⟨rfl, rfl, rfl, rfl⟩

/-- The pulse timer moves only itself and the duty step. -/
theorem Pulse.timed_frame (held : Bool) (p : Pulse) : ∃ timer seq,
    (if held then p else p.clockTimer) = { p with timer := timer, seq := seq } := by
  unfold Pulse.clockTimer
  split
  · exact ⟨_, _, rfl⟩
  · split <;> exact ⟨_, _, rfl⟩

theorem Triangle.clockTimer_linear (t : Triangle) :
    t.clockTimer.lin = t.lin ∧ t.clockTimer.linReload = t.linReload := by
  unfold Triangle.clockTimer
  split <;> exact ⟨rfl, rfl⟩

/-- Settles O6: the event's clocks, each in numbers; the timers and the commit change none of these fields. -/
theorem envelopeSweepLinear : Obligations.EnvelopeSweepLinear := by
  unfold Obligations.EnvelopeSweepLinear
  intro s console wf a t envelope sweep linear
  obtain ⟨pulse1, pulse2, triangle, noise, -⟩ := apuTick_channels s
  obtain ⟨quarter, half⟩ := clocked_eq s wf
  obtain ⟨event1, event2, eventNoise, eventTriangle⟩ := s.apu.clockEvent_parts (s.apu.event s.cfg)
  rw [← quarter, ← half] at event1 event2
  rw [← quarter] at eventNoise eventTriangle
  obtain ⟨_, _, timed1⟩ := Pulse.timed_frame s.apu.phase (s.apu.clockEvent (s.apu.event s.cfg)).1.pulse1
  obtain ⟨_, _, timed2⟩ := Pulse.timed_frame s.apu.phase (s.apu.clockEvent (s.apu.event s.cfg)).1.pulse2
  rw [timed1, event1] at pulse1
  rw [timed2, event2] at pulse2
  obtain ⟨lin, reload⟩ := (s.apu.clockEvent (s.apu.event s.cfg)).1.triangle.clockTimer_linear
  obtain ⟨-, -, env, -⟩ := (s.apu.clockEvent (s.apu.event s.cfg)).1.noise.clockTimer_fields s.cfg.region
  refine ⟨congrArg Pulse.env pulse1, congrArg Pulse.env pulse2, ?_, ?_, ?_, ?_, (cycled_apuTick s).apu⟩
  · rw [show t.noise = _ from noise]
    exact env.trans (congrArg Noise.env eventNoise)
  · rw [show t.pulse1 = _ from pulse1]
  · rw [show t.pulse2 = _ from pulse2]
  · rw [show t.triangle = _ from triangle]
    dsimp only
    rw [lin, reload, eventTriangle]

end Sys2Proof.Machine
end

section
/-!
SUPPORT. O8: the timers, the output units and the sample of one APU tick, in numbers (62_apu.md R570 to R606).
-/

namespace Sys2Proof.Machine

/-! ### Tables and counters -/

theorem tableAt_of_getElem? {l : List Nat} {i n : Nat} (entry : l[i]? = some n) : tableAt l i = n := by
  induction l generalizing i with
  | nil => cases entry
  | cons x l ih =>
    cases i with
    | zero =>
      obtain rfl : x = n := by simpa using entry
      cases l <;> rfl
    | succ i =>
      have rest : l[i]? = some n := by simpa using entry
      cases l with
      | nil => cases rest
      | cons y l => exact ih rest

theorem pred_toNat {w : Nat} (v : BitVec w) (positive : v.toNat ≠ 0) : (v - 1).toNat = v.toNat - 1 := by
  rw [pred_eq_ofNat v positive, BitVec.toNat_ofNat, Nat.mod_eq_of_lt (by omega)]

/-- A timer of the APU, in numbers. -/
theorem timer_toNat {w : Nat} (v reload : BitVec w) :
    (if v = 0 then reload else v - 1).toNat = timerTicked v.toNat reload.toNat := by
  have zero : v = 0 ↔ v.toNat = 0 := BitVec.toNat_eq.trans (by simp)
  unfold timerTicked
  split
  next done => rw [if_pos (zero.mp done)]
  next running => rw [if_neg (mt zero.mpr running), pred_toNat _ (mt zero.mpr running)]

/-! ### Pulse -/

theorem Pulse.clockTimer_eq (p : Pulse) : p.clockTimer =
    { p with
      timer := if p.timer = 0 then p.period else p.timer - 1
      seq := if p.timer = 0 then p.seq + 1 else p.seq } := by
  unfold Pulse.clockTimer
  split <;> rfl

/-! ### Triangle -/

theorem Triangle.clockTimer_eq (t : Triangle) : t.clockTimer =
    { t with
      timer := if t.timer = 0 then t.period else t.timer - 1
      seq := if t.timer = 0 ∧ t.lc.len ≠ 0 ∧ t.lin ≠ 0 then t.seq + 1 else t.seq } := by
  unfold Triangle.clockTimer
  split
  next done => simp only [done, true_and]
  next running => simp only [running, false_and, if_false]

/-! ### Noise -/

theorem noisePeriods_range (region : Region) (i : BitVec 4) :
    tableAt (noisePeriods region) i.toNat ≤ 4096 := by
  revert i
  cases region <;> decide

theorem lfsrStep_toNat (mode : Bool) (l : BitVec 15) : (lfsrStep mode l).toNat =
    l.toNat / 2 + (l.toNat + l.toNat / (if mode then 64 else 2)) % 2 * 16384 := by
  have tap : (if mode then l.getLsbD 6 else l.getLsbD 1) = decide (l.toNat / (if mode then 64 else 2) % 2 = 1) := by
    cases mode <;> exact getLsbD_eq_decide l _
  have fed (a b : Nat) : (decide (a % 2 = 1) ^^ decide (b % 2 = 1)).toNat = (a + b) % 2 := by
    rcases Nat.mod_two_eq_zero_or_one a with ha | ha <;> rcases Nat.mod_two_eq_zero_or_one b with hb | hb <;>
      simp [ha, hb, Nat.add_mod]
  rw [lfsrStep, toNat_append_eq, extractLsb'_toNat_div, BitVec.toNat_ofBool, tap, getLsbD_eq_decide, pow_zero,
    Nat.div_one, fed]
  have := l.isLt
  omega

/-! ### DMC -/

theorem Dmc.nextLevel_toNat (d : Dmc) : d.nextLevel.toNat = levelAfterBit d := by
  have bit : d.shift.getLsbD 0 = true ↔ d.shift.toNat % 2 = 1 := by
    rw [getLsbD_eq_decide, decide_eq_true_iff, pow_zero, Nat.div_one]
  simp only [Dmc.nextLevel, levelAfterBit, bit]
  (repeat' split) <;> bv_omega

theorem Dmc.clockTimer_eq (region : Region) (d : Dmc) :
    let out := decide (d.timer = 0)
    let byteDone := out && decide (d.bitsLeft = 1)
    d.clockTimer region = { d with
      timer := if out then BitVec.ofNat 9 (d.rate region - 1) else d.timer - 1
      level := if out then d.nextLevel else d.level
      bitsLeft := if byteDone then 8 else if out then d.bitsLeft - 1 else d.bitsLeft
      silence := if byteDone then d.bufferEmpty else d.silence
      shift := if byteDone = true ∧ d.bufferEmpty = false then d.buffer else if out then d.shift >>> 1 else d.shift
      bufferEmpty := d.bufferEmpty || byteDone } := by
  intro out byteDone
  have last : d.bitsLeft - 1 = 0 ↔ d.bitsLeft = 1 := sub_eq_zero
  unfold Dmc.clockTimer
  by_cases running : d.timer = 0
  · have outOn : out = true := decide_eq_true running
    rw [if_pos running]
    dsimp only
    by_cases ends : d.bitsLeft = 1
    · have doneOn : byteDone = true := by simp only [byteDone, outOn, decide_eq_true ends, Bool.and_self]
      rw [if_pos (last.mpr ends), outOn, doneOn]
      cases d.bufferEmpty <;> rfl
    · have doneOff : byteDone = false := by simp only [byteDone, decide_eq_false ends, Bool.and_false]
      rw [if_neg (mt last.mp ends), outOn, doneOff, Bool.or_false]
      rfl
  · have outOff : out = false := decide_eq_false running
    have doneOff : byteDone = false := by simp only [byteDone, outOff, Bool.false_and]
    rw [if_neg running, outOff, doneOff, Bool.or_false]
    rfl

theorem Dmc.take_output (b : Byte) (d : Dmc) : ∃ buffer addr left irq, d.take b = { d with
    buffer := buffer, bufferEmpty := false, curAddr := addr, bytesLeft := left, dmcIrq := irq } := by
  unfold Dmc.take Dmc.sampleEnd
  dsimp only
  split
  · split
    · exact ⟨_, _, _, _, rfl⟩
    · split <;> exact ⟨_, _, _, _, rfl⟩
  · exact ⟨_, _, _, _, rfl⟩

/-! ### The mixer -/

theorem Pulse.output_eq (one : Bool) (p : Pulse) : p.output one = pulseOutput one p := by
  have silent : p.lc.len = 0 ↔ p.lc.len.toNat = 0 := BitVec.toNat_eq
  have low : ∀ (duty : BitVec 2) (seq : BitVec 3), tableAt (dutyRow duty.toNat) seq.toNat = 0 ↔
      (dutyRow duty.toNat)[seq.toNat]? ≠ some 1 := by decide
  simp only [Pulse.output, pulseOutput, silent, low, Pulse.muted_eq]
  rfl

theorem Noise.output_eq (n : Noise) : n.output = noiseOutput n := by
  have silent : n.lc.len = 0 ↔ n.lc.len.toNat = 0 := BitVec.toNat_eq
  have bit : n.lfsr.getLsbD 0 = true ↔ n.lfsr.toNat % 2 = 1 := by
    rw [getLsbD_eq_decide, decide_eq_true_iff, pow_zero, Nat.div_one]
  simp only [Noise.output, noiseOutput, silent, bit]
  rfl

theorem Apu.mix_eq (m : Mixer) (a : Apu) : a.mix m = mixedSample m a := by
  simp only [Apu.mix, mixedSample, Pulse.output_eq, Noise.output_eq]
  cases m with
  | linear w => exact Rat.mkRat_eq_div _ _
  | other => rfl

/-- The default mixer's weights in the mixer's sum (62_apu.md R606). -/
theorem mixedSample_default (a : Apu) : mixedSample Params.default.mixer a =
    (752 : Rat) / 100000 * (pulseOutput true a.pulse1 + pulseOutput false a.pulse2 : Nat) +
      (851 : Rat) / 100000 * (triangleOutput a.triangle : Nat) + (494 : Rat) / 100000 * (noiseOutput a.noise : Nat) +
      (335 : Rat) / 100000 * (a.dmc.level.toNat : Nat) := by
  simp only [mixedSample, Params.default]
  push_cast
  ring

/-! ### The obligation -/

/-- The pulse channels after a tick: the timer and duty step move in every other tick, the period by the event. -/
theorem Pulse.ticked (held : Bool) {p q r : Pulse} (lc : Length) (timer : q.timer = p.timer) (seq : q.seq = p.seq)
    (ticked : r = { (if held then q else q.clockTimer) with lc := lc }) :
    r.timer.toNat = (if held then p.timer.toNat else timerTicked p.timer.toNat r.period.toNat) ∧
      r.seq.toNat = (if held = false ∧ p.timer = 0 then (p.seq.toNat + 1) % 8 else p.seq.toNat) := by
  subst ticked
  cases held with
  | true => exact ⟨congrArg BitVec.toNat timer, congrArg BitVec.toNat seq⟩
  | false =>
    simp only [Bool.false_eq_true, if_false, Pulse.clockTimer_eq, timer_toNat, timer, seq, true_and]
    split
    · exact BitVec.toNat_add _ _
    · rfl

/-- The pulse channels' timers and duty steps are not the event's. -/
theorem Apu.clockEvent_timers (a : Apu) (e : SeqEvent) :
    let c := (a.clockEvent e).1
    (c.pulse1.timer = a.pulse1.timer ∧ c.pulse1.seq = a.pulse1.seq) ∧
      (c.pulse2.timer = a.pulse2.timer ∧ c.pulse2.seq = a.pulse2.seq) ∧
      (c.triangle.timer = a.triangle.timer ∧ c.triangle.seq = a.triangle.seq ∧
        c.triangle.period = a.triangle.period) ∧
      c.noise.timer = a.noise.timer ∧ c.noise.lfsr = a.noise.lfsr ∧ c.noise.mode = a.noise.mode ∧
      c.noise.periodIndex = a.noise.periodIndex := by
  cases e <;> exact ⟨⟨rfl, rfl⟩, ⟨rfl, rfl⟩, ⟨rfl, rfl, rfl⟩, rfl, rfl, rfl, rfl⟩

/-- The length counter the triangle's timer sees (62_apu.md R580). -/
theorem Apu.clockEvent_triangleLength (a : Apu) (e : SeqEvent) :
    (a.clockEvent e).1.triangle.lc.len ≠ 0 ↔
      a.triangle.lc.len.toNat - (e.halves && !a.triangle.lc.halt).toNat ≠ 0 := by
  have clocked : (a.clockEvent e).1.triangle.lc = if e.halves then a.triangle.lc.clock.1 else a.triangle.lc := by
    cases e <;> rfl
  have zero (len : Byte) : len ≠ 0 ↔ len.toNat ≠ 0 := not_congr BitVec.toNat_eq
  obtain ⟨len, clock, value⟩ := a.triangle.lc.clock_fields
  rw [clocked, zero]
  cases e.halves with
  | false => rfl
  | true =>
    rw [clock, if_pos rfl, value, Bool.true_and]
    cases a.triangle.lc.halt with
    | true => rw [Bool.not_true, Bool.and_false]
    | false =>
      by_cases silent : a.triangle.lc.len = 0
      · simp [silent]
      · rw [bne_iff_ne.mpr silent, Bool.not_false, Bool.and_self]

/-- The triangle after a tick: its timer, and its step while both counters run. -/
theorem Triangle.ticked {p q r : Triangle} (lc : Length) (timer : q.timer = p.timer) (seq : q.seq = p.seq)
    (period : q.period = p.period) (ticked : r = { q.clockTimer with lc := lc }) :
    r.timer.toNat = timerTicked p.timer.toNat p.period.toNat ∧
      r.seq = if p.timer = 0 ∧ q.lc.len ≠ 0 ∧ r.lin ≠ 0 then p.seq + 1 else p.seq := by
  subst ticked
  simp only [Triangle.clockTimer_eq, timer_toNat, timer, seq, period, and_self]

/-- The noise channel after a tick: its timer from the period's table, and the shift register's step. -/
theorem Noise.ticked (region : Region) {p q r : Noise} (lc : Length)
    (same : q.timer = p.timer ∧ q.lfsr = p.lfsr ∧ q.mode = p.mode ∧ q.periodIndex = p.periodIndex)
    (ticked : r = { q.clockTimer region with lc := lc }) :
    (∀ n, (noisePeriods region)[p.periodIndex.toNat]? = some n →
      r.timer.toNat = timerTicked p.timer.toNat (n - 1)) ∧
      r.lfsr.toNat = (if p.timer = 0 then (lfsrStep p.mode p.lfsr).toNat else p.lfsr.toNat) := by
  obtain ⟨timer, lfsr, mode, index⟩ := same
  have clocked : q.clockTimer region = { q with
      timer := if p.timer = 0 then BitVec.ofNat 12 (tableAt (noisePeriods region) p.periodIndex.toNat - 1)
        else p.timer - 1
      lfsr := if p.timer = 0 then lfsrStep p.mode p.lfsr else p.lfsr } := by
    rw [Noise.clockTimer, timer, lfsr, mode, index]
    split
    · rfl
    · rw [← lfsr]
  subst ticked
  rw [clocked]
  refine ⟨fun n entry => ?_, by split <;> rfl⟩
  have value := tableAt_of_getElem? entry
  have range := noisePeriods_range region p.periodIndex
  rw [value] at range
  dsimp only
  rw [timer_toNat, value, BitVec.toNat_ofNat, Nat.mod_eq_of_lt (by omega)]

/-- The output unit after a turn is the timer's; the reader fills the buffer where bytes are left (62_apu.md R591). -/
theorem turnDmc_output (s : State) (b : Byte) : ∃ buffer addr left irq,
    turnDmc s b = { s.apu.dmc.clockTimer s.cfg.region with
      buffer := buffer, curAddr := addr, bytesLeft := left, dmcIrq := irq
      bufferEmpty := decide (s.apu.dmc.bytesLeft = 0) && (s.apu.dmc.clockTimer s.cfg.region).bufferEmpty } := by
  obtain ⟨-, -, -, -, -, -, left, -⟩ := Dmc.clockTimer_fields s.cfg.region s.apu.dmc
  have wants : (s.apu.dmc.clockTimer s.cfg.region).wantsByte =
      ((s.apu.dmc.clockTimer s.cfg.region).bufferEmpty && !decide (s.apu.dmc.bytesLeft = 0)) := by
    rw [Dmc.wantsByte, left]
    rfl
  unfold turnDmc
  generalize s.apu.dmc.clockTimer s.cfg.region = d at *
  rw [wants]
  split
  next fetches =>
    obtain ⟨_, _, _, _, take⟩ := d.take_output b
    have more : decide (s.apu.dmc.bytesLeft = 0) = false := by
      simpa using (Bool.and_eq_true_iff.mp fetches).2
    exact ⟨_, _, _, _, by rw [take, more, Bool.false_and]⟩
  next idle =>
    have same : (decide (s.apu.dmc.bytesLeft = 0) && d.bufferEmpty) = d.bufferEmpty := by
      generalize decide (s.apu.dmc.bytesLeft = 0) = ended at idle
      cases ended <;> simp_all
    exact ⟨d.buffer, d.curAddr, d.bytesLeft, d.dmcIrq, by rw [same]⟩

/-- Settles O8: each channel by its timer's equation after the event, the DMC by `turnDmc`. -/
theorem timersAndSample : Obligations.TimersAndSample := by
  unfold Obligations.TimersAndSample
  intro s console wf a t pulse playing out byteDone
  obtain ⟨pulse1, pulse2, triangle, noise, phase, sample⟩ := apuTick_channels s
  obtain ⟨timers1, timers2, ⟨timer3, seq3, period3⟩, timersNoise⟩ := s.apu.clockEvent_timers (s.apu.event s.cfg)
  obtain ⟨b, dmc, -, -⟩ := apuTick_dmc s
  obtain ⟨buffer, addr, left, irq, output⟩ := turnDmc_output s b
  have unit : t.dmc = _ := dmc.trans output
  obtain ⟨triangleTimer, triangleSeq⟩ := Triangle.ticked _ timer3 seq3 period3 triangle
  obtain ⟨noiseTimer, noiseShift⟩ := Noise.ticked s.cfg.region _ timersNoise noise
  have mixed : t.sample = mixedSample s.cfg.mixer t := sample.trans (Apu.mix_eq s.cfg.mixer t)
  simp only [Apu.clockEvent_triangleLength, ← (clocked_eq s wf).2] at triangleSeq
  rw [Dmc.clockTimer_eq] at unit
  refine ⟨phase, ?_, ?_, triangleTimer, ?_, ?_, noiseTimer, ?_, ?_, ?_, ?_, ?_, ?_, ?_, mixed, ?_⟩
  · exact Pulse.ticked s.apu.phase _ timers1.1 timers1.2 pulse1
  · exact Pulse.ticked s.apu.phase _ timers2.1 timers2.2 pulse2
  · intro zero plays
    rw [triangleSeq, if_pos ⟨zero, plays⟩]
    exact BitVec.toNat_add _ _
  · intro still
    rw [triangleSeq, if_neg still]
  · rw [noiseShift, lfsrStep_toNat]
  · intro n entry
    have value : s.apu.dmc.rate s.cfg.region = n := tableAt_of_getElem? entry
    obtain ⟨positive, small⟩ := s.apu.dmc.rate_range s.cfg.region
    rw [unit]
    simp only [decide_eq_true_eq, timer_toNat, BitVec.toNat_ofNat]
    rw [Nat.mod_eq_of_lt (by omega), value]
  · rw [unit]
    dsimp only
    rw [apply_ite BitVec.toNat, Dmc.nextLevel_toNat]
  · rw [unit]
  · rw [unit]
  · rw [unit]
    dsimp only
    rw [apply_ite BitVec.toNat, apply_ite BitVec.toNat, BitVec.toNat_ushiftRight, Nat.shiftRight_eq_div_pow, pow_one]
  · rw [unit]
  · intro default
    rw [mixed, default, mixedSample_default]

end Sys2Proof.Machine
end

section
/-!
SUPPORT. O58: the DMC reader's byte, the turns of the stall's loop, and the clock of a cycle (62_apu.md R591, R592;
20_memory.md R133).
-/

namespace Sys2Proof.Machine

/-! ### The reader -/

/-- A bus read does not look at the stall owed. -/
theorem busRead_setStall (addr : Addr) (s : State) (n : Nat) :
    (busRead addr { s with stall := n }).1 = (busRead addr s).1 := by
  have pad (second : Bool) : (padRead second { s with stall := n }).1 = (padRead second s).1 := by
    cases strobe : s.pads.strobe with
    | false =>
      simp only [padRead, strobe]
      rfl
    | true =>
      cases host : s.pads.host <;> simp only [padRead, latchButtons, strobe, host] <;> rfl
  cases mode : s.cfg.busMode with
  | flat64k => simp only [busRead, mode]
  | console =>
    simp only [busRead, mode, consoleRead, apply_ite Prod.fst, pad]
    rfl

/-- The reader's fetch: its stall, and the byte taken. -/
theorem dmcReader_fetch {s : State} (wants : s.apu.dmc.wantsByte = true) :
    (dmcReader s).stall = s.stall + s.cfg.dmcStallCycles ∧
      (dmcReader s).apu.dmc = s.apu.dmc.take (busRead s.apu.dmc.curAddr s).1 := by
  obtain ⟨dmc, stall, -⟩ := busRead_dmc s.apu.dmc.curAddr { s with stall := s.stall + s.cfg.dmcStallCycles }
  rw [dmcReader, if_pos wants]
  exact ⟨stall, by dsimp only; rw [dmc, busRead_setStall]⟩

theorem Dmc.wantsByte_iff (d : Dmc) : d.wantsByte = true ↔ d.bufferEmpty = true ∧ 0 < d.bytesLeft.toNat := by
  rw [Dmc.wantsByte, Bool.and_eq_true, bne_iff_ne, Ne, BitVec.toNat_eq, Nat.pos_iff_ne_zero]
  rfl

/-- A byte that is not the sample's last one (62_apu.md R591). -/
theorem Dmc.take_more (b : Byte) {d : Dmc} (more : 1 < d.bytesLeft.toNat) : d.take b = { d with
    buffer := b, bufferEmpty := false, bytesLeft := d.bytesLeft - 1
    curAddr := if d.curAddr = 0xFFFF#16 then 0x8000#16 else d.curAddr + 1 } := by
  have left : d.bytesLeft - 1 ≠ 0 := by bv_omega
  rw [Dmc.take]
  exact if_neg left

/-- The sample's last byte: it starts again, or ends with its interrupt (62_apu.md R592). -/
theorem Dmc.take_last (b : Byte) {d : Dmc} (last : d.bytesLeft.toNat = 1) :
    (d.take b).buffer = b ∧ (d.take b).bufferEmpty = false ∧
      (d.loop = true → (d.take b).dmcIrq = d.dmcIrq ∧ (d.take b).curAddr = d.restart.curAddr ∧
        (d.take b).bytesLeft = d.restart.bytesLeft) ∧
      (d.loop = false → (d.take b).bytesLeft = 0 ∧ (d.take b).dmcIrq = (d.dmcIrq || d.irqEn)) := by
  have left : d.bytesLeft - 1 = 0 := by bv_omega
  have ends : d.take b = Dmc.sampleEnd { d with
      buffer := b, bufferEmpty := false, bytesLeft := d.bytesLeft - 1
      curAddr := if d.curAddr = 0xFFFF#16 then 0x8000#16 else d.curAddr + 1 } := by
    rw [Dmc.take]
    exact if_pos left
  rw [ends, Dmc.sampleEnd]
  cases loops : d.loop with
  | true => exact ⟨rfl, rfl, fun _ => ⟨rfl, rfl, rfl⟩, nofun⟩
  | false =>
    cases d.irqEn with
    | true => exact ⟨rfl, rfl, nofun, fun _ => ⟨left, (Bool.or_true _).symm⟩⟩
    | false => exact ⟨rfl, rfl, nofun, fun _ => ⟨left, (Bool.or_false _).symm⟩⟩

/-! ### The turns -/

theorem drainTurns_succ (n : Nat) (s : State) : drainTurns (n + 1) s = drainTurns n (drainTurn s) := by
  induction n with
  | zero => rfl
  | succ n ih => exact congrArg drainTurn ih

/-- The loop is its turns, up to the first at which nothing is owed. -/
theorem drainLoop_turns (k : Nat) (s : State) : ∃ n, drainLoop k s = drainTurns n s ∧
    ∀ m, m < n → (drainTurns m s).stall ≠ 0 := by
  induction k generalizing s with
  | zero => exact ⟨0, rfl, fun m none => absurd none (Nat.not_lt_zero m)⟩
  | succ k ih =>
    unfold drainLoop
    split
    · exact ⟨0, rfl, fun m none => absurd none (Nat.not_lt_zero m)⟩
    next owed =>
      obtain ⟨n, turns, before⟩ := ih (drainTurn s)
      refine ⟨n + 1, by rw [turns, drainTurns_succ], fun m early => ?_⟩
      cases m with
      | zero => exact owed
      | succ m =>
        rw [drainTurns_succ]
        exact before m (by omega)

theorem drainStall_turns (s : State) : ∃ n,
    let u := drainTurns n s
    drainStall s = { u with hung := (drainStall s).hung } ∧ (∀ m, m < n → (drainTurns m s).stall ≠ 0) ∧
      (u.stall = 0 ∧ (drainStall s).hung = s.hung ∨ u.stall ≠ 0 ∧ (drainStall s).hung = true) := by
  by_cases idle : s.stall = 0
  · rw [drainStall_of_none s idle]
    exact ⟨0, rfl, fun m none => absurd none (Nat.not_lt_zero m), .inl ⟨idle, rfl⟩⟩
  · obtain ⟨n, turns, before⟩ := drainLoop_turns (drainBound s) s
    have hung : (drainTurns n s).hung = s.hung := turns ▸ drainLoop_hung _ s
    have drained : drainStall s = { drainTurns n s with hung := s.hung || (drainTurns n s).stall != 0 } := by
      rw [drainStall, if_neg idle, turns, ← hung]
    refine ⟨n, by rw [drained], before, ?_⟩
    rw [drained]
    by_cases done : (drainTurns n s).stall = 0
    · exact .inl ⟨done, by simp [done]⟩
    · exact .inr ⟨done, by simp [done]⟩

/-! ### The clock -/

theorem dmcReader_clock (s : State) : (dmcReader s).cycles = s.cycles ∧ (dmcReader s).delta = s.delta := by
  unfold dmcReader
  split
  · obtain ⟨cycles, delta, -⟩ := busRead_clock s.apu.dmc.curAddr { s with stall := s.stall + s.cfg.dmcStallCycles }
    exact ⟨cycles, delta⟩
  · exact ⟨rfl, rfl⟩

theorem ppuDots_clock (n : Nat) (s : State) : (ppuDots n s).cycles = s.cycles ∧ (ppuDots n s).delta = s.delta := by
  induction n generalizing s with
  | zero => exact ⟨rfl, rfl⟩
  | succ n ih => exact ih (ppuDot s)

theorem advancePhase_clock (s : State) : (advancePhase s).cycles = s.cycles ∧ (advancePhase s).delta = s.delta := by
  unfold advancePhase
  split <;> exact ⟨rfl, rfl⟩

/-- A cycle's end counts one cycle. -/
theorem endCycle_clock (s : State) : (endCycle s).cycles = s.cycles + 1 ∧ (endCycle s).delta = s.delta + 1 := by
  have devices : (clockDevices s).cycles = s.cycles ∧ (clockDevices s).delta = s.delta := by
    obtain ⟨phaseCycles, phaseDelta⟩ := advancePhase_clock s
    unfold clockDevices
    split
    · obtain ⟨dotCycles, dotDelta⟩ := ppuDots_clock (dotsThisCycle s) (advancePhase s)
      obtain ⟨cycles, delta⟩ := dmcReader_clock { ppuDots (dotsThisCycle s) (advancePhase s) with
        apu := ((ppuDots (dotsThisCycle s) (advancePhase s)).apu.tickHead
          (ppuDots (dotsThisCycle s) (advancePhase s)).cfg).1 }
      exact ⟨cycles.trans (dotCycles.trans phaseCycles), delta.trans (dotDelta.trans phaseDelta)⟩
    · exact ⟨phaseCycles, phaseDelta⟩
  exact ⟨congrArg (· + 1) devices.1, congrArg (· + 1) devices.2⟩

/-- With no byte left the reader fetches none, so no stall is added (62_apu.md R591). -/
theorem endCycle_silent {s : State} (silent : s.apu.dmc.bytesLeft = 0) :
    (endCycle s).apu.dmc.bytesLeft = 0 ∧ (endCycle s).stall = s.stall := by
  have turn : drainTurn { s with stall := s.stall + 1 } = endCycle s := rfl
  cases mode : s.cfg.busMode with
  | console =>
    obtain ⟨b, dmc, -, stall⟩ := drainTurn_console { s with stall := s.stall + 1 } mode
    obtain ⟨-, left⟩ := Dmc.clockTimer_reader s.cfg.region s.apu.dmc
    have idle : (s.apu.dmc.clockTimer s.cfg.region).wantsByte = false := by
      simp [Dmc.wantsByte, left, silent]
    simp only [turn, turnDmc, idle] at dmc stall
    exact ⟨(congrArg Dmc.bytesLeft dmc).trans (left.trans silent), stall⟩
  | flat64k =>
    obtain ⟨dmc, -, stall⟩ := drainTurn_flat { s with stall := s.stall + 1 } mode
    rw [turn] at dmc stall
    exact ⟨(congrArg Dmc.bytesLeft dmc).trans silent, stall⟩

/-- With no sample in play the loop takes as many cycles as are owed. -/
theorem drainLoop_silent (n : Nat) {s : State} (silent : s.apu.dmc.bytesLeft = 0) (enough : s.stall ≤ n) :
    (drainLoop n s).apu.dmc.bytesLeft = 0 ∧ (drainLoop n s).stall = 0 ∧
      (drainLoop n s).cycles = s.cycles + s.stall ∧ (drainLoop n s).delta = s.delta + s.stall := by
  induction n generalizing s with
  | zero =>
    have none : s.stall = 0 := by omega
    exact ⟨silent, none, by rw [none]; rfl, by rw [none]; rfl⟩
  | succ n ih =>
    unfold drainLoop
    split
    next none => exact ⟨silent, none, by rw [none]; rfl, by rw [none]; rfl⟩
    next owed =>
      have off : ({ s with stall := s.stall - 1 } : State).apu.dmc.bytesLeft = 0 := silent
      obtain ⟨quiet, stall⟩ := endCycle_silent off
      obtain ⟨cycles, delta⟩ := endCycle_clock { s with stall := s.stall - 1 }
      dsimp only at stall cycles delta
      obtain ⟨loopQuiet, loopStall, loopCycles, loopDelta⟩ := ih (s := drainTurn s) quiet (by rw [drainTurn]; omega)
      refine ⟨loopQuiet, loopStall, ?_, ?_⟩
      · rw [loopCycles, drainTurn]
        omega
      · rw [loopDelta, drainTurn]
        omega

/-- With no sample in play a cycle without a bus access takes the stall owed and itself. -/
theorem tick_silent {s : State} (silent : s.apu.dmc.bytesLeft = 0) :
    (tick s).stall = 0 ∧ (tick s).cycles = s.cycles + s.stall + 1 ∧ (tick s).delta = s.delta + s.stall + 1 := by
  have enough : s.stall ≤ drainBound s := by
    unfold drainBound
    omega
  have drained : (drainStall s).apu.dmc.bytesLeft = 0 ∧ (drainStall s).stall = 0 ∧
      (drainStall s).cycles = s.cycles + s.stall ∧ (drainStall s).delta = s.delta + s.stall := by
    unfold drainStall
    split
    next none => exact ⟨silent, none, by rw [none]; rfl, by rw [none]; rfl⟩
    next => exact drainLoop_silent _ silent enough
  obtain ⟨quiet, stall, cycles, delta⟩ := drained
  obtain ⟨endCycles, endDelta⟩ := endCycle_clock (drainStall s)
  exact ⟨(endCycle_silent quiet).2.trans stall, by rw [tick, endCycles, cycles], by rw [tick, endDelta, delta]⟩

/-- Settles O58: the reader's fetch, the loop's turns, and the cycles of a stall with no sample in play. -/
theorem dmcFetch : Obligations.DmcFetch := by
  unfold Obligations.DmcFetch
  refine ⟨fun s empty left => ?_, fun s idle => ?_, fun s => ?_, fun s silent => tick_silent silent⟩
  · intro t d e
    obtain ⟨stall, dmc⟩ := dmcReader_fetch (d.wantsByte_iff.mpr ⟨empty, left⟩)
    have taken : e = d.take (busRead d.curAddr s).1 := dmc
    rw [taken]
    by_cases last : d.bytesLeft.toNat = 1
    · obtain ⟨buffer, full, again, ends⟩ := Dmc.take_last (busRead d.curAddr s).1 last
      obtain ⟨address, length, -⟩ := dmcRestart d
      refine ⟨stall, buffer, full, fun more => by omega, fun _ loops => ?_, fun _ once => ?_⟩
      · obtain ⟨irq, addr, bytes⟩ := again loops
        exact ⟨irq, by rw [addr, address], by rw [bytes, length]⟩
      · obtain ⟨bytes, irq⟩ := ends once
        exact ⟨by rw [bytes]; rfl, irq⟩
    · have more : 1 < d.bytesLeft.toNat := Nat.lt_of_le_of_ne left (Ne.symm last)
      rw [Dmc.take_more _ more]
      refine ⟨stall, rfl, rfl, fun _ => ⟨?_, rfl, ?_⟩, fun one => absurd one last, fun one => absurd one last⟩
      · exact pred_toNat d.bytesLeft (Nat.ne_of_gt left)
      · have top : d.curAddr = 0xFFFF#16 ↔ d.curAddr.toNat = 0xFFFF := BitVec.toNat_eq
        dsimp only
        rw [apply_ite BitVec.toNat]
        simp only [top]
        split
        · rfl
        · bv_omega
  · have off : ¬(s.apu.dmc.wantsByte = true) := by
      rw [Dmc.wantsByte_iff]
      rintro ⟨empty, left⟩
      rcases idle with full | done
      · exact Bool.false_ne_true (full.symm.trans empty)
      · rw [done] at left
        exact Nat.lt_irrefl 0 left
    exact if_neg off
  · obtain ⟨n, drained, before, ends⟩ := drainStall_turns s
    refine ⟨n, drained, before, ends, fun finite => ?_, rfl⟩
    have done := (drainStall_ends s finite.symm).1
    rwa [drained] at done

end Sys2Proof.Machine
end

section
/-!
SUPPORT. O59: the mapper's registers, windows and banks in numbers, and five serial writes of MMC1
(63_mapper_and_ports.md R621 to R634).
-/

namespace Sys2Proof.Machine

/-! ### The MMC1 port -/

/-- The serial register after a bit enters it, in the parameter's order (63_mapper_and_ports.md R626). -/
def serialShift (order : BitOrder) (shift : BitVec 5) (v : Byte) : BitVec 5 :=
  match order with
  | .msbFirst => BitVec.ofNat 5 (2 * shift.toNat + v.toNat % 2)
  | .lsbFirst => BitVec.ofNat 5 (shift.toNat / 2 + 16 * (v.toNat % 2))

theorem serialShift_eq (order : BitOrder) (shift : BitVec 5) (v : Byte) :
    (match order with
      | .msbFirst => (shift <<< 1) ||| (BitVec.ofBool (v.getLsbD 0)).setWidth 5
      | .lsbFirst => (shift >>> 1) ||| ((BitVec.ofBool (v.getLsbD 0)).setWidth 5 <<< 4)) = serialShift order shift v := by
  have first : ∀ (shift : BitVec 5) (b : Bool),
      (shift <<< 1) ||| (BitVec.ofBool b).setWidth 5 = BitVec.ofNat 5 (2 * shift.toNat + b.toNat) := by decide
  have last : ∀ (shift : BitVec 5) (b : Bool),
      (shift >>> 1) ||| ((BitVec.ofBool b).setWidth 5 <<< 4) = BitVec.ofNat 5 (shift.toNat / 2 + 16 * b.toNat) := by
    decide
  have bit : (v.getLsbD 0).toNat = v.toNat % 2 := by rw [toNat_getLsbD, pow_zero, Nat.div_one]
  cases order with
  | msbFirst => exact (first shift _).trans (by rw [bit]; rfl)
  | lsbFirst => exact (last shift _).trans (by rw [bit]; rfl)

/-- The register that a full serial word is loaded into, by the address of its last write. -/
def Mmc1.load (r : Mmc1) (a : Addr) (word : BitVec 5) : Mmc1 :=
  match a.toNat / 8192 % 4 with
  | 0 => { r with control := word, shift := 0, count := 0 }
  | 1 => { r with chr0 := word, shift := 0, count := 0 }
  | 2 => { r with chr1 := word, shift := 0, count := 0 }
  | _ => { r with prgb := word, shift := 0, count := 0 }

section
variable (order : BitOrder) (a : Addr) {v : Byte} (r : Mmc1)

theorem Mmc1.write_reset (set : 128 ≤ v.toNat) : r.write order a v = { r with
    shift := 0, count := 0, control := BitVec.ofNat 5 (r.control.toNat / 16 * 16 + 12 + r.control.toNat % 4) } := by
  have mode : ∀ c : BitVec 5, c ||| 0x0C#5 = BitVec.ofNat 5 (c.toNat / 16 * 16 + 12 + c.toNat % 4) := by decide
  rw [Mmc1.write, getLsbD_seven_eq_decide, if_pos (decide_eq_true set), mode]

theorem Mmc1.write_bit (clear : v.toNat < 128) (more : r.count ≠ 4) :
    r.write order a v = { r with shift := serialShift order r.shift v, count := r.count + 1 } := by
  have low : ¬(v.getLsbD 7 = true) := by
    rw [getLsbD_seven_eq_decide, decide_eq_true_iff]
    omega
  rw [Mmc1.write, if_neg low, ← serialShift_eq]
  exact if_neg (by omega)

theorem Mmc1.write_last (clear : v.toNat < 128) (last : r.count = 4) :
    r.write order a v = r.load a (serialShift order r.shift v) := by
  have low : ¬(v.getLsbD 7 = true) := by
    rw [getLsbD_seven_eq_decide, decide_eq_true_iff]
    omega
  rw [Mmc1.write, if_neg low, ← serialShift_eq]
  exact if_pos (by omega)

end

theorem Mmc1.write_eq (order : BitOrder) (a : Addr) (v : Byte) (r : Mmc1) :
    r.write order a v = mmc1Written order a v r := by
  have shift : BitVec.ofNat 5 (match order with
      | .msbFirst => (2 * r.shift.toNat + v.toNat % 2) % 32
      | .lsbFirst => r.shift.toNat / 2 + 16 * (v.toNat % 2)) = serialShift order r.shift v := by
    cases order with
    | msbFirst =>
      apply BitVec.eq_of_toNat_eq
      simp only [serialShift, BitVec.toNat_ofNat]
      omega
    | lsbFirst => rfl
  unfold mmc1Written
  by_cases set : 128 ≤ v.toNat
  · rw [if_pos set, Mmc1.write_reset order a r set]
  · rw [if_neg set]
    by_cases last : r.count = 4
    · rw [Mmc1.write_last order a r (by omega) last, ← shift]
      exact (if_pos last).symm
    · rw [Mmc1.write_bit order a r (by omega) last, ← shift]
      exact (if_neg last).symm

/-- Five bits shift out what the serial register held, in either order. -/
theorem serialShift_five (order : BitOrder) (shift : BitVec 5) (b0 b1 b2 b3 b4 : Byte) :
    serialShift order
        (serialShift order (serialShift order (serialShift order (serialShift order shift b0) b1) b2) b3) b4 =
      BitVec.ofNat 5 (serialWord order b0 b1 b2 b3 b4) := by
  apply BitVec.eq_of_toNat_eq
  cases order <;> simp only [serialShift, serialWord, BitVec.toNat_ofNat] <;> omega

/-! ### The schemes -/

theorem Mapper.write_eq (order : BitOrder) (a : Addr) (v : Byte) (m : Mapper) :
    m.write order a v = mapperWritten order a v m := by
  cases m with
  | fixed | lowerBankSelect | upperBankSelect => rfl
  | shiftRegister r => exact congrArg Mapper.shiftRegister (r.write_eq order a v)
  | coarseBankSelect bank screen =>
    rw [Mapper.write, mapperWritten, extractLsb'_eq_ofNat, getLsbD_eq_decide, pow_zero, Nat.div_one]
    rfl

/-- The page behind a window (63_mapper_and_ports.md R625, R627, R630 to R633). -/
theorem Cart.prgPage_eq (c : Cart) (a : Nat) : c.prgPage a = windowPage c (decide (0xC000 ≤ a)) := by
  unfold Cart.prgPage windowPage
  split
  next low =>
    rw [decide_eq_false (by omega)]
    cases c.mapper with
    | fixed | lowerBankSelect | upperBankSelect | coarseBankSelect => rfl
    | shiftRegister r =>
      simp only [Mapper.lowerPage, Mmc1.prgMode, Mmc1.prgBank]
      generalize r.control.toNat / 4 % 4 = mode
      match mode with
      | 0 | 1 | 2 | 3 | _ + 4 => rfl
  next high =>
    rw [decide_eq_true (by omega)]
    cases c.mapper with
    | fixed | lowerBankSelect | upperBankSelect | coarseBankSelect => rfl
    | shiftRegister r =>
      simp only [Mapper.upperPage, Mmc1.prgMode, Mmc1.prgBank]
      generalize r.control.toNat / 4 % 4 = mode
      match mode with
      | 0 | 1 | 2 | 3 | _ + 4 => rfl

/-- The half of the pattern tables as a number. -/
theorem half_toNat {a : Nat} (low : a < 0x2000) : (decide (0x1000 ≤ a)).toNat = a / 0x1000 := by
  by_cases upper : 0x1000 ≤ a
  · rw [decide_eq_true upper, Bool.toNat_true]
    omega
  · rw [decide_eq_false upper, Bool.toNat_false]
    omega

/-- The CHR bank behind a half of the pattern tables (63_mapper_and_ports.md R623, R628). -/
theorem Mmc1.chrBank_eq {c : Cart} {r : Mmc1} (mapper : c.mapper = .shiftRegister r) {a : Nat} (low : a < 0x2000) :
    r.chrBank a = patternBank c (decide (0x1000 ≤ a)) := by
  have wide : r.control.getLsbD 4 = true ↔ r.control.toNat / 16 = 1 := by
    rw [getLsbD_eq_decide, decide_eq_true_iff]
    have := r.control.isLt
    omega
  simp only [Mmc1.chrBank, patternBank, mapper, wide, half_toNat low]
  split
  · by_cases upper : 0x1000 ≤ a
    · rw [if_neg (by omega), if_pos (decide_eq_true upper)]
    · rw [if_pos (by omega), if_neg (by simpa using upper)]
  · rfl

theorem Cart.chrRamCell_eq (c : Cart) {a : Nat} (low : a < 0x2000) :
    c.chrRamCell a = 0x1000 * (patternBank c (decide (0x1000 ≤ a)) % 2) + a % 0x1000 := by
  unfold Cart.chrRamCell
  split
  next r mapper => rw [Mmc1.chrBank_eq mapper low]
  all_goals
    next mapper =>
      simp only [patternBank, mapper, half_toNat low]
      omega

theorem Cart.effectiveMirroring_eq (c : Cart) : c.effectiveMirroring = mirroringInForce c := by
  unfold Cart.effectiveMirroring mirroringInForce
  cases c.mapper with
  | fixed | lowerBankSelect | upperBankSelect | coarseBankSelect => rfl
  | shiftRegister r =>
    dsimp only
    generalize r.control.toNat % 4 = mode
    match mode with
    | 0 | 1 | 2 => rfl
    | mode + 3 => simp

/-! ### The obligation -/

/-- A PRG read is the cell of the windowed page, with no effect. -/
theorem busRead_prg {s : State} {a : Addr} (console : s.cfg.busMode = .console) (low : 0x8000 ≤ a.toNat) :
    busRead a s =
      (cellByte s .prg (0x4000 * windowPage s.cart (decide (0xC000 ≤ a.toNat)) + a.toNat % 0x4000), s) := by
  rw [busRead_cartridge console (by omega), mapperCpuRead, ← Cart.prgPage_eq]
  simp (disch := omega) only [if_neg]
  rfl

/-- Settles O59: writes and windows scheme by scheme; the five serial writes by `serialShift_five`. -/
theorem mapperRegisters : Obligations.MapperRegisters := by
  unfold Obligations.MapperRegisters
  refine ⟨fun s a v console low => ⟨?_, busRead_prg console low⟩, fun s a low => ⟨?_, s.cart.effectiveMirroring_eq⟩, ?_⟩
  · rw [busWrite_bankRegister v console low, Mapper.write_eq]
  · rw [Ppu.read, if_pos low, Cart.ppuRead]
    by_cases ram : s.cart.nChr = 0
    · rw [if_pos ram, if_pos ram, Cart.chrRamCell_eq _ low]
      rfl
    · rw [if_neg ram, if_neg ram, Cart.chrCell]
      cases mapper : s.cart.mapper with
      | fixed | lowerBankSelect | upperBankSelect | coarseBankSelect => rfl
      | shiftRegister r =>
        rw [← Mmc1.chrBank_eq mapper low]
        rfl
  · intro order r a0 a1 a2 a3 a4 b0 b1 b2 b3 b4 empty low0 low1 low2 low3 low4 q word
    refine ⟨?_, fun a b set => ?_⟩
    · have written : q = r.load a4 word := by
        simp only [q]
        rw [Mmc1.write_bit order a0 r low0 (by omega), Mmc1.write_bit order a1 _ low1 (by dsimp only; omega),
          Mmc1.write_bit order a2 _ low2 (by dsimp only; omega), Mmc1.write_bit order a3 _ low3 (by dsimp only; omega),
          Mmc1.write_last order a4 _ low4 (by dsimp only; omega), serialShift_five]
        rfl
      exact written
    · rw [Mmc1.write_reset order a r set]
      refine ⟨rfl, rfl, ?_, rfl, rfl, rfl⟩
      simp only [Mmc1.prgMode, BitVec.toNat_ofNat]
      omega

end Sys2Proof.Machine
end

section
/-!
SUPPORT. O60: the shift registers of the controller ports (63_mapper_and_ports.md R640 to R643).
-/

namespace Sys2Proof.Machine

/-- A port's shift register after `n` reads: 1s enter from the left (63_mapper_and_ports.md R642). -/
def shiftedOut : Nat → Byte → Byte
  | 0, v => v
  | n + 1, v => shiftedOut n ((v >>> 1) ||| 0x80)

theorem shiftedOut_bit (n : Nat) (v : Byte) (i : Nat) (inside : i < 8) :
    (shiftedOut n v).getLsbD i = if i + n < 8 then v.getLsbD (i + n) else true := by
  induction n generalizing v with
  | zero => rw [if_pos (by omega)]; rfl
  | succ n ih =>
    have shifted (j : Nat) (low : j < 8) :
        ((v >>> 1) ||| 0x80).getLsbD j = if j + 1 < 8 then v.getLsbD (j + 1) else true := by
      interval_cases j <;> simp
    rw [shiftedOut, ih]
    by_cases more : i + n < 8
    · rw [if_pos more, shifted _ more, Nat.add_assoc]
    · rw [if_neg more, if_neg (by omega)]

/-- A port's byte is the button over the open bus's bits 7 to 5 (63_mapper_and_ports.md R642). -/
theorem portByte_low (ob v : Byte) : ((ob &&& 0xE0) ||| (v &&& 1)).toNat % 32 = v.toNat % 2 := by
  have middle := portByte_middle ob v
  have bit (x : Byte) : x.toNat % 2 = (x.getLsbD 0).toNat := by rw [toNat_getLsbD, pow_zero, Nat.div_one]
  have low : ((ob &&& 0xE0) ||| (v &&& 1)).getLsbD 0 = v.getLsbD 0 := by simp
  have same := bit ((ob &&& 0xE0) ||| (v &&& 1))
  rw [low, ← bit] at same
  omega

/-- A read of a port with the strobe low: the register's bit 0 over an open-bus byte, and one shift. -/
theorem padRead_shifts {second : Bool} {s : State} (low : s.pads.strobe = false) :
    (padRead second s).1.toNat % 32 = (s.pads.shift second).toNat % 2 ∧
      (padRead second s).2.pads = s.pads.setShift second ((s.pads.shift second >>> 1) ||| 0x80) ∧
      (padRead second s).2.cfg = s.cfg := by
  have strobe : ¬(s.pads.strobe = true) := by rw [low]; decide
  rw [padRead, if_neg strobe]
  exact ⟨portByte_low _ _, rfl, rfl⟩

theorem busRead_pad (second : Bool) {s : State} (console : s.cfg.busMode = .console) :
    busRead (if second then 0x4017#16 else 0x4016#16) s = padRead second s := by
  cases second with
  | false => exact busRead_port console (.inl rfl)
  | true => exact busRead_port console (.inr rfl)

/-- `n` reads of a port shift its register `n` times, and nothing else of the ports. -/
theorem padReads_shifts (second : Bool) (n : Nat) {s : State} (console : s.cfg.busMode = .console)
    (low : s.pads.strobe = false) :
    (padReads second n s).cfg.busMode = .console ∧
      (padReads second n s).pads = s.pads.setShift second (shiftedOut n (s.pads.shift second)) := by
  induction n generalizing s with
  | zero => exact ⟨console, by cases second <;> rfl⟩
  | succ n ih =>
    obtain ⟨-, pads, cfg⟩ := padRead_shifts (second := second) low
    rw [padReads, busRead_pad second console]
    obtain ⟨mode, shifts⟩ := ih (s := (padRead second s).2) (by rw [cfg, console])
      (by rw [pads]; cases second <;> exact low)
    refine ⟨mode, shifts.trans ?_⟩
    rw [pads]
    cases second <;> rfl

/-- A strobe of 1 and then 0 leaves the host's buttons in the shift registers (63_mapper_and_ports.md R640, R641). -/
theorem padStrobe_latches {s : State} {b : Byte × Byte} {on off : Byte} (console : s.cfg.busMode = .console)
    (host : s.pads.host = some b) (set : on.toNat % 2 = 1) (clear : off.toNat % 2 = 0) :
    let t := busWrite 0x4016#16 off (busWrite 0x4016#16 on s)
    t.cfg.busMode = .console ∧ t.pads = { strobe := false, shift1 := b.1, shift2 := b.2, host := some b } := by
  have port (s : State) (v : Byte) (console : s.cfg.busMode = .console) : busWrite 0x4016#16 v s = padStrobe v s := by
    simp [busWrite, console, consoleWrite]
  have bit (v : Byte) : v.getLsbD 0 = decide (v.toNat % 2 = 1) := by
    rw [getLsbD_eq_decide, pow_zero, Nat.div_one]
  have up : padStrobe on s = { s with pads := { s.pads with strobe := true, shift1 := b.1, shift2 := b.2 } } := by
    simp only [padStrobe, bit, set, decide_true, if_true, latchButtons, host]
    rfl
  have low : ¬(off.getLsbD 0 = true) := by
    rw [bit, decide_eq_true_iff]
    omega
  intro t
  have written : t = { s with pads := { strobe := false, shift1 := b.1, shift2 := b.2, host := s.pads.host } } := by
    simp only [t]
    rw [port s on console, up]
    refine (port _ off ?_).trans (if_neg low)
    exact console
  rw [written]
  exact ⟨console, by rw [host]⟩

/-- Settles O60: the strobe's latch, then the reads by induction on their number. -/
theorem controllerShift : Obligations.ControllerShift := by
  unfold Obligations.ControllerShift
  intro s b on off n second console host set clear t r buttons
  obtain ⟨mode, pads⟩ : t.cfg.busMode = .console ∧ _ := padStrobe_latches console host set clear
  have low : t.pads.strobe = false := by rw [pads]
  obtain ⟨mode', shifts⟩ := padReads_shifts second n mode low
  have held : t.pads.shift second = buttons := by
    rw [pads]
    rfl
  have low' : (padReads second n t).pads.strobe = false := by
    rw [shifts]
    cases second <;> exact low
  obtain ⟨byte, after, -⟩ := padRead_shifts (second := second) low'
  have read : r = padRead second (padReads second n t) := busRead_pad second mode'
  have bit : (shiftedOut n buttons).toNat % 2 = if n < 8 then buttons.toNat / 2 ^ n % 2 else 1 := by
    have zero := toNat_getLsbD (shiftedOut n buttons) 0
    rw [pow_zero, Nat.div_one, shiftedOut_bit n buttons 0 (by decide), Nat.zero_add] at zero
    rw [← zero, apply_ite Bool.toNat, toNat_getLsbD]
    rfl
  have shift : (padReads second n t).pads.shift second = shiftedOut n buttons := by
    rw [shifts, held]
    cases second <;> rfl
  rw [read, byte, after, shift, bit]
  refine ⟨rfl, ?_⟩
  rw [shifts, pads]
  cases second <;> rfl

end Sys2Proof.Machine
end

section
/-!
SUPPORT. O33, O40 and O41: the reset state, the load of a cartridge, and its pages behind the windows
(63_mapper_and_ports.md R620, R624, R635; 10_state.md R101).
-/

namespace Sys2Proof.Machine

/-- Settles O33, field by field: the memories list nothing, the counters stand in their ranges. -/
theorem resetHasInvariant : Obligations.ResetHasInvariant := by
  unfold Obligations.ResetHasInvariant
  obtain ⟨ram, exram, sram, flat, prg, chr, chrRam, oam, vram, palette⟩ := State.reset_memories 2048
  exact {
    cfg := by decide
    palPhase := by decide
    ram := ram
    exram := rfl
    sram := rfl
    flat := rfl
    ppu := { dot := by decide, scanline := by decide, fineX := by decide, sprites := by decide, oam := rfl, vram := vram
             palette := rfl, frame := rfl }
    apu := { fc := by decide, lfsr := by decide, bitsLeft := by decide, curAddr := by decide }
    cart := { pages := by decide, prg := rfl, chr := rfl, chrRam := rfl, count := nofun }
    hung := rfl }

/-! ### Joined pages -/

theorem sortedGet_of_risingAbove {α : Type} {l : List (Nat × α)} {a : Nat} (above : risingAbove a l = true) :
    sortedGet l a = none := by
  cases l with
  | nil => rfl
  | cons p l =>
    simp only [risingAbove, Bool.and_eq_true, decide_eq_true_eq] at above
    rw [sortedGet, if_pos above.1]

theorem sortedGet_append_left {α : Type} (l : List (Nat × α)) {r : List (Nat × α)} {a : Nat}
    (missing : sortedGet r a = none) : sortedGet (l ++ r) a = sortedGet l a := by
  induction l with
  | nil => exact missing
  | cons p l ih => simp only [List.cons_append, sortedGet, ih]

theorem sortedGet_append_right {α : Type} {l : List (Nat × α)} (r : List (Nat × α)) {a m : Nat}
    (below : keysBelow m l = true) (above : m ≤ a) : sortedGet (l ++ r) a = sortedGet r a := by
  induction l with
  | nil => rfl
  | cons p l ih =>
    simp only [keysBelow, List.all_cons, Bool.and_eq_true, decide_eq_true_eq] at below ih
    obtain ⟨first, rest⟩ := below
    rw [List.cons_append, sortedGet, if_neg (by omega), if_neg (by omega), ih rest]

theorem sortedGet_shift (base : Nat) (p : Memory) (a : Nat) :
    sortedGet (p.map fun c => (base + c.1, c.2)) (base + a) = sortedGet p a := by
  induction p with
  | nil => rfl
  | cons c p ih => simp only [List.map_cons, sortedGet, ih, Nat.add_lt_add_iff_left, Nat.add_left_cancel_iff]

theorem sortedGet_lt {α : Type} {l : List (Nat × α)} {a m : Nat} {v : α} (below : keysBelow m l = true)
    (entry : sortedGet l a = some v) : a < m := by
  simpa using List.all_eq_true.mp below _ (sortedGet_mem entry)

/-- A page's byte stands in the joined memory at its page's base. -/
theorem read_joinPages {size : Nat} (positive : 0 < size) {pages : List Memory} (base : Nat)
    (wf : pages.all (Memory.wf size) = true) {k i : Nat} {p : Memory} {v : Byte} (page : pages[k]? = some p)
    (byte : p.read i = some v) : (joinPages size base pages).read (base + size * k + i) = some v := by
  induction pages generalizing base k with
  | nil => cases page
  | cons q pages ih =>
    rw [List.all_cons, Bool.and_eq_true] at wf
    obtain ⟨first, rest⟩ := wf
    have below : keysBelow size q = true := (Bool.and_eq_true_iff.mp first).2
    cases k with
    | zero =>
      obtain rfl : q = p := by simpa using page
      have inside : i < size := sortedGet_lt below byte
      have later : risingAbove (base + i) (joinPages size (base + size) pages) = true :=
        risingAbove_joinPages size positive pages (base + size) (base + i) (by omega) rest
      rw [Nat.mul_zero, Nat.add_zero, Memory.read, joinPages, sortedGet_append_left _ (sortedGet_of_risingAbove later),
        sortedGet_shift]
      exact byte
    | succ k =>
      have found := ih (base + size) rest (k := k) (by simpa using page)
      have place : base + size * (k + 1) + i = base + size + size * k + i := by rw [Nat.mul_succ]; omega
      rw [place, Memory.read, joinPages, sortedGet_append_right _ (keysBelow_page base size q below) (by omega)]
      exact found

/-! ### The load -/

theorem headerMagic_iff (h : Vector Byte 16) :
    headerMagic h = true ↔ h.toList.take 4 = [0x4E#8, 0x45#8, 0x53#8, 0x1A#8] := by
  have magic : h.toList.take 4 = [h[0], h[1], h[2], h[3]] := by
    refine List.ext_getElem (by simp) fun i low _ => ?_
    have : i < 4 := by simpa using low
    interval_cases i <;> simp
  rw [magic]
  simp [headerMagic, and_assoc]

theorem pagesMatch_iff (count size : Nat) (pages : List Memory) :
    pagesMatch count size pages = true ↔ pages.length = count ∧ ¬∃ p ∈ pages, Memory.wf size p = false := by
  simp [pagesMatch]

theorem schemeOf_eq (ids : List (Nat × Scheme)) (id : Nat) :
    schemeOf ids id = (ids.find? fun q => q.1 == id).map Prod.snd := by
  induction ids with
  | nil => rfl
  | cons q ids ih =>
    rw [schemeOf, List.find?_cons, ih]
    by_cases named : q.1 = id
    · rw [if_pos named, beq_iff_eq.mpr named]
      rfl
    · rw [if_neg named, beq_false_of_ne named]

/-- The cartridge of a load that no header error stops (63_mapper_and_ports.md R620, R624). -/
def loadedCart (h : Vector Byte 16) (prg chr : List Memory) (scheme : Scheme) : Cart :=
  { prg := joinPages 0x4000 0 prg, nPrg := h[4].toNat, chr := joinPages 0x2000 0 chr, nChr := h[5].toNat
    chrRam := [], mirroring := headerMirroring h, mapperId := headerMapperId h, mapper := Mapper.initial scheme }

/-- The header and the page arrays are good (63_mapper_and_ports.md R620; log entry 15). -/
structure GoodHeader (h : Vector Byte 16) (prg chr : List Memory) : Prop where
  magic : headerMagic h = true
  pages : h[4] ≠ 0
  prg : pagesMatch h[4].toNat 0x4000 prg = true
  chr : pagesMatch h[5].toNat 0x2000 chr = true

theorem loadCart_of_bad (cfg : Params) {h : Vector Byte 16} {prg chr : List Memory} (bad : ¬GoodHeader h prg chr) :
    loadCart cfg h prg chr = .error .invalidHeader := by
  unfold loadCart
  split
  · rfl
  next magic =>
    split
    · rfl
    next pages =>
      split
      · rfl
      next prgMatch =>
        split
        · rfl
        next chrMatch =>
          refine absurd ⟨?_, pages, ?_, ?_⟩ bad
          · simpa using magic
          · simpa using prgMatch
          · simpa using chrMatch

theorem loadCart_of_good (cfg : Params) {h : Vector Byte 16} {prg chr : List Memory} (good : GoodHeader h prg chr) :
    loadCart cfg h prg chr = match schemeOf cfg.mapperIds (headerMapperId h) with
      | none => .error .unsupportedMapper
      | some scheme => .ok (loadedCart h prg chr scheme) := by
  simp only [loadCart, good.magic, good.pages, good.prg, good.chr]
  rfl

/-- The loaded cartridge is in canonical form. -/
theorem GoodHeader.inv {h : Vector Byte 16} {prg chr : List Memory} (good : GoodHeader h prg chr) (scheme : Scheme) :
    (loadedCart h prg chr scheme).Inv where
  pages := Nat.pos_of_ne_zero fun none => good.pages (BitVec.eq_of_toNat_eq none)
  prg := by
    obtain ⟨length, wf⟩ := Bool.and_eq_true_iff.mp good.prg
    have joined := Memory.wf_joinPages 0x4000 (by decide) prg wf
    rwa [beq_iff_eq.mp length] at joined
  chr := by
    obtain ⟨length, wf⟩ := Bool.and_eq_true_iff.mp good.chr
    have joined := Memory.wf_joinPages 0x2000 (by decide) chr wf
    rwa [beq_iff_eq.mp length] at joined
  chrRam := rfl
  count := by
    intro r mapper
    cases scheme <;> cases mapper
    decide

theorem headerMirroring_eq (h : Vector Byte 16) : headerMirroring h =
    if h[6].toNat / 8 % 2 = 1 then .fourScreen else if h[6].toNat % 2 = 1 then .vertical else .horizontal := by
  simp only [headerMirroring, getLsbD_eq_decide, decide_eq_true_eq, pow_zero, Nat.div_one]
  rfl

/-- Settles O40: the errors in the order of the checks, and the fields of the loaded cartridge. -/
theorem loadErrors : Obligations.LoadErrors := by
  unfold Obligations.LoadErrors
  intro cfg h prg chr bad id
  have header : ¬bad ↔ GoodHeader h prg chr := by
    have good : GoodHeader h prg chr ↔ headerMagic h = true ∧ h[4] ≠ 0 ∧ pagesMatch h[4].toNat 0x4000 prg = true ∧
        pagesMatch h[5].toNat 0x2000 chr = true :=
      ⟨fun ⟨a, b, c, d⟩ => ⟨a, b, c, d⟩, fun ⟨a, b, c, d⟩ => ⟨a, b, c, d⟩⟩
    rw [good, headerMagic_iff, pagesMatch_iff, pagesMatch_iff]
    simp only [bad, not_or, ne_eq, not_not]
    exact ⟨fun ⟨a, b, c, d, e, f⟩ => ⟨a, b, ⟨c, e⟩, d, f⟩, fun ⟨a, b, ⟨c, e⟩, d, f⟩ => ⟨a, b, c, d, e, f⟩⟩
  refine ⟨fun isBad => ?_, fun isGood unnamed => ?_, fun q isGood named => ?_⟩
  · rw [bootCart, loadCart_of_bad cfg fun good => header.mpr good isBad]
  · have missing : cfg.mapperIds.find? (fun q => q.1 == id) = none := by simpa using unnamed
    rw [bootCart, loadCart_of_good cfg (header.mp isGood), schemeOf_eq, headerMapperId, missing]
    rfl
  · have good := header.mp isGood
    have pages := (Bool.and_eq_true_iff.mp good.prg).2
    have chrPages := (Bool.and_eq_true_iff.mp good.chr).2
    refine ⟨loadedCart h prg chr q.2, ?_, fun k p i v page byte => ?_, fun k p i v page byte => ?_, rfl, ?_, rfl,
      rfl, rfl, headerMirroring_eq h, good.inv q.2⟩
    · rw [bootCart, loadCart_of_good cfg good, schemeOf_eq, headerMapperId, named]
      rfl
    · have found := read_joinPages (by decide) 0 pages page byte
      rwa [Nat.zero_add] at found
    · have found := read_joinPages (by decide) 0 chrPages page byte
      rwa [Nat.zero_add] at found
    · rcases q with ⟨_, scheme⟩
      cases scheme <;> rfl

end Sys2Proof.Machine
end

section
/-!
SUPPORT. O41 and O38: the reset sequence as seven cycles and a load of PC (70_reset_and_hazards.md R661), and what the
cycles keep.
-/

namespace Sys2Proof.Machine

/-- The five internal cycles of the reset sequence. -/
def resetIdle (s : State) : State := tick (tick (tick (tick (tick s))))

/-- The two reads of a vector. -/
def vectorReads (vec : Addr) (s : State) : State := (memRead (vec + 1) (memRead vec s).2).2

/-- The seven cycles of the reset sequence: five internal ones and the vector's two reads. -/
def resetCycles (s : State) : State := vectorReads 0xFFFC#16 (resetIdle s)

theorem cycled_resetIdle (s : State) : Cycled s (resetIdle s) :=
  ((((cycled_tick s).trans (cycled_tick _)).trans (cycled_tick _)).trans (cycled_tick _)).trans (cycled_tick _)

theorem cycled_vectorReads (vec : Addr) (s : State) : Cycled s (vectorReads vec s) :=
  (cycled_memRead vec s).trans (cycled_memRead _ _)

theorem cycled_resetCycles (s : State) : Cycled s (resetCycles s) :=
  (cycled_resetIdle s).trans (cycled_vectorReads _ _)

/-- A vector's load is its reads and the word they give. -/
theorem loadVector_eq {vec word : Addr} {s : State} (stored : storedWord s vec = some word) :
    loadVector vec s = setPc word (vectorReads vec s) := by
  have reads : loadVector vec s = setPc (loadVector vec s).regs.pc (vectorReads vec s) := rfl
  have pc : (loadVector vec s).regs.pc = word := by
    unfold storedWord at stored
    split at stored
    next lo hi storedLo storedHi =>
      rw [(loadVector_spec vec s).2.2 lo hi storedLo storedHi, addrOf_eq_ofNat]
      exact Option.some.inj stored
    next => cases stored
  rw [reads, pc]

theorem storedWord_of_high (s : State) {addr : Addr} (high : 0x8000 ≤ addr.toNat) (low : addr.toNat < 0xFFFF) :
    ∃ word, storedWord s addr = some word := by
  obtain ⟨lo, storedLo⟩ := storedByte_of_high s high
  obtain ⟨hi, storedHi⟩ := storedByte_of_high s (addr := addr + 1) (by bv_omega)
  exact ⟨_, by simp only [storedWord, storedLo, storedHi]; rfl⟩

theorem Cycled.storedWord {s t : State} (h : Cycled s t) (addr : Addr) : storedWord t addr = storedWord s addr := by
  simp only [Machine.storedWord, h.storedByte]

theorem setPc_setPc (pc old : Addr) (s : State) : setPc pc (setPc old s) = setPc pc s := rfl

/-- The reset sequence is its cycles and a load of PC, from START_PC or the vector. -/
theorem resetSequence_eq (s : State) : ∃ pc, resetSequence s = setPc pc (resetCycles s) ∧
    some pc = match s.cfg.startPc with
      | some pc => some pc
      | none => storedWord s 0xFFFC#16 := by
  obtain ⟨word, stored⟩ := storedWord_of_high s (addr := 0xFFFC#16) (by decide) (by decide)
  have load : loadVector 0xFFFC#16 (resetIdle s) = setPc word (resetCycles s) :=
    loadVector_eq (((cycled_resetIdle s).storedWord _).trans stored)
  have cfg : (setPc word (resetCycles s)).cfg = s.cfg := (cycled_resetCycles s).cfg
  have sequence : resetSequence s = match (setPc word (resetCycles s)).cfg.startPc with
      | some pc => setPc pc (setPc word (resetCycles s))
      | none => setPc word (resetCycles s) := by
    rw [← load]
    rfl
  rw [cfg] at sequence
  cases start : s.cfg.startPc with
  | some pc => exact ⟨pc, by simp only [sequence, start, setPc_setPc], rfl⟩
  | none => exact ⟨word, by simp only [sequence, start], stored.symm⟩

/-! ### A fixed cartridge -/

theorem powerOn_cart (cfg : Params) (cart : Cart) : (powerOn cfg cart).cart = cart ∧ (powerOn cfg cart).cfg = cfg := by
  obtain ⟨pc, sequence, -⟩ := resetSequence_eq (coldState cfg cart)
  have cycles := cycled_resetCycles (coldState cfg cart)
  rw [powerOn, sequence]
  exact ⟨cycles.cart, cycles.cfg⟩

/-- A launch that loads has a good header, and starts at power-on with the loaded cartridge. -/
theorem bootCart_ok {cfg : Params} {h : Vector Byte 16} {prg chr : List Memory} {s : State}
    (loaded : bootCart cfg h prg chr = .ok s) :
    GoodHeader h prg chr ∧ ∃ scheme, s = powerOn cfg (loadedCart h prg chr scheme) := by
  by_cases good : GoodHeader h prg chr
  · rw [bootCart, loadCart_of_good cfg good] at loaded
    cases named : schemeOf cfg.mapperIds (headerMapperId h) with
    | none => simp [named] at loaded
    | some scheme =>
      simp only [named, Except.ok.injEq] at loaded
      exact ⟨good, scheme, loaded.symm⟩
  · rw [bootCart, loadCart_of_bad cfg good] at loaded
    cases loaded

theorem Memory.byte_of_read {kind : MemKind} {m : Memory} {a : Nat} {v : Byte} (byte : m.read a = some v) :
    Memory.byte kind m a = v := by
  simp only [Memory.byte, byte]

/-- A window of the fixed scheme reads the first page or the last one. -/
theorem busRead_fixed {s : State} (console : s.cfg.busMode = .console) (fixed : s.cart.mapper = .fixed) (upper : Bool)
    {i : Nat} (inside : i < 0x4000) {v : Byte}
    (stored : s.cart.prg.read (0x4000 * (if upper then s.cart.nPrg - 1 else 0) + i) = some v) :
    busRead (BitVec.ofNat 16 ((if upper then 0xC000 else 0x8000) + i)) s = (v, s) := by
  have place : (BitVec.ofNat 16 ((if upper then 0xC000 else 0x8000) + i)).toNat =
      (if upper then 0xC000 else 0x8000) + i := by
    rw [BitVec.toNat_ofNat, Nat.mod_eq_of_lt (by split <;> omega)]
  have half : decide (0xC000 ≤ (if upper then 0xC000 else 0x8000) + i) = upper := by
    cases upper with
    | true => exact decide_eq_true (Nat.le_add_right _ _)
    | false => exact decide_eq_false (by simp only [Bool.false_eq_true, if_false]; omega)
  have offset : ((if upper then 0xC000 else 0x8000) + i) % 0x4000 = i := by split <;> omega
  have page : windowPage s.cart upper = if upper then s.cart.nPrg - 1 else 0 := by
    simp only [windowPage, fixed]
  rw [busRead_prg console (by rw [place]; split <;> omega), place, half, offset, page]
  exact Prod.ext (Memory.byte_of_read stored) rfl

/-- Settles O41: the windows of the fixed scheme give the first and the last page, and a page's byte stands at its
base. -/
theorem fixedRoundTrip : Obligations.FixedRoundTrip := by
  unfold Obligations.FixedRoundTrip
  intro cfg h prg chr s console loaded fixed
  obtain ⟨good, scheme, start⟩ := bootCart_ok loaded
  obtain ⟨cartEq, cfgEq⟩ := powerOn_cart cfg (loadedCart h prg chr scheme)
  rw [← start] at cartEq cfgEq
  have mode : s.cfg.busMode = .console := by rw [cfgEq, console]
  obtain ⟨prgCount, prgWf⟩ := Bool.and_eq_true_iff.mp good.prg
  obtain ⟨chrCount, chrWf⟩ := Bool.and_eq_true_iff.mp good.chr
  have nPrg : s.cart.nPrg = prg.length := by rw [cartEq, beq_iff_eq.mp prgCount]; rfl
  have nChr : s.cart.nChr = chr.length := by rw [cartEq, beq_iff_eq.mp chrCount]; rfl
  have stored {k i : Nat} {p : Memory} {v : Byte} (page : prg[k]? = some p) (byte : p.read i = some v) :
      s.cart.prg.read (0x4000 * k + i) = some v := by
    have joined := read_joinPages (by decide) 0 prgWf page byte
    rw [Nat.zero_add] at joined
    rw [cartEq]
    exact joined
  refine ⟨fun p0 p1 i v two inside => ⟨fun byte => ?_, fun byte => ?_⟩, fun p0 i v one inside byte => ⟨?_, ?_⟩,
    fun c0 a v one low byte => ?_⟩
  · exact busRead_fixed mode fixed false inside (stored (k := 0) (by rw [two]; rfl) byte)
  · refine busRead_fixed mode fixed true inside ?_
    rw [nPrg, two]
    exact stored (k := 1) (by rw [two]; rfl) byte
  · exact busRead_fixed mode fixed false inside (stored (k := 0) (by rw [one]; rfl) byte)
  · refine busRead_fixed mode fixed true inside ?_
    rw [nPrg, one]
    exact stored (k := 0) (by rw [one]; rfl) byte
  · have joined := read_joinPages (by decide) 0 chrWf (k := 0) (by rw [one]; rfl) byte
    rw [Nat.mul_zero, Nat.zero_add] at joined
    have rom : ¬(s.cart.nChr = 0) := by
      rw [nChr, one]
      exact Nat.one_ne_zero
    have cell : s.cart.chrCell a = a := by simp only [Cart.chrCell, fixed]
    rw [Ppu.read, if_pos low, Cart.ppuRead, if_neg rom, cell]
    refine Memory.byte_of_read ?_
    rw [cartEq]
    exact joined

end Sys2Proof.Machine
end

section
/-!
SUPPORT. O38: an external reset. Its seven cycles all keep what every cycle without a bus access to a device keeps
(70_reset_and_hazards.md R661, R663).
-/

namespace Sys2Proof.Machine

/-! ### The reset's cycles as ticks -/

/-- A read of storage is, but for its byte, a cycle without a bus access. -/
theorem memRead_state {s : State} {addr : Addr} (high : 0x8000 ≤ addr.toNat) : (memRead addr s).2 = tick s := by
  obtain ⟨v, stored⟩ := storedByte_of_high (drainStall s) high
  rw [memRead, busRead_stored stored]
  rfl

theorem resetCycles_eq (s : State) : resetCycles s = tick^[7] s := by
  rw [resetCycles, vectorReads, memRead_state (by decide), memRead_state (by decide)]
  rfl

/-- A property that every cycle keeps, whatever is owed of a stall and marked of it. -/
structure CycleInvariant (P : State → Prop) : Prop where
  cycle : ∀ s, P s → P (endCycle s)
  owed : ∀ s n, P s → P { s with stall := n }
  mark : ∀ s b, P s → P { s with hung := b }

theorem CycleInvariant.drainLoop {P : State → Prop} (inv : CycleInvariant P) (n : Nat) {s : State} (h : P s) :
    P (drainLoop n s) := by
  induction n generalizing s with
  | zero => exact h
  | succ n ih =>
    unfold Machine.drainLoop
    split
    · exact h
    · exact ih (inv.cycle _ (inv.owed _ _ h))

theorem CycleInvariant.tick {P : State → Prop} (inv : CycleInvariant P) {s : State} (h : P s) : P (tick s) := by
  refine inv.cycle _ ?_
  unfold drainStall
  split
  · exact h
  · exact inv.mark _ _ (inv.drainLoop _ h)

theorem CycleInvariant.ticks {P : State → Prop} (inv : CycleInvariant P) (n : Nat) {s : State} (h : P s) :
    P (Machine.tick^[n] s) := by
  induction n with
  | zero => exact h
  | succ n ih =>
    rw [Function.iterate_succ_apply']
    exact inv.tick ih

/-! ### The NMI latch, the ports and the clock -/

/-- Where no dot can request an NMI, none becomes pending. -/
theorem cycleInvariant_noNmi : CycleInvariant fun s => NmiMuted s ∧ s.nmiPending = false where
  cycle _ h := ⟨(cycled_endCycle _).nmiMuted h.1, h.1.endCycle.trans h.2⟩
  owed _ _ h := h
  mark _ _ h := h

theorem Dmc.clockTimer_high (region : Region) {d : Dmc} (high : 0x8000 ≤ d.curAddr.toNat) :
    0x8000 ≤ (d.clockTimer region).curAddr.toNat := by
  obtain ⟨-, -, -, -, -, curAddr, -⟩ := Dmc.clockTimer_fields region d
  rwa [curAddr]

/-- The reader's address stays above 0x8000 (62_apu.md R591, R593). -/
theorem Dmc.take_high (b : Byte) {d : Dmc} (high : 0x8000 ≤ d.curAddr.toNat) : 0x8000 ≤ (d.take b).curAddr.toNat := by
  have next : 0x8000 ≤ (if d.curAddr = 0xFFFF#16 then 0x8000#16 else d.curAddr + 1).toNat := by
    split
    · decide
    · bv_omega
  unfold Dmc.take Dmc.sampleEnd
  dsimp only
  split
  · split
    · exact Nat.le_trans (by decide) (dmcRestart _).2.2.1
    · split
      · exact next
      · exact next
  · exact next

/-- The sample fetch reads storage, so it does not touch the ports. -/
theorem dmcReader_pads {s : State} (high : 0x8000 ≤ s.apu.dmc.curAddr.toNat) : (dmcReader s).pads = s.pads := by
  unfold dmcReader
  split
  · obtain ⟨v, stored⟩ := storedByte_of_high { s with stall := s.stall + s.cfg.dmcStallCycles } high
    rw [busRead_stored stored]
  · rfl

theorem ppuDots_pads (n : Nat) (s : State) : (ppuDots n s).pads = s.pads := by
  induction n generalizing s with
  | zero => rfl
  | succ n ih => exact ih (ppuDot s)

theorem advancePhase_pads (s : State) : (advancePhase s).pads = s.pads := by
  unfold advancePhase
  split <;> rfl

theorem turnDmc_high (s : State) (b : Byte) (high : 0x8000 ≤ s.apu.dmc.curAddr.toNat) :
    0x8000 ≤ (turnDmc s b).curAddr.toNat := by
  have clocked := Dmc.clockTimer_high s.cfg.region high
  unfold turnDmc
  split
  · exact Dmc.take_high b clocked
  · exact clocked

theorem apuTick_pads {s : State} (high : 0x8000 ≤ s.apu.dmc.curAddr.toNat) :
    0x8000 ≤ (apuTick s).apu.dmc.curAddr.toNat ∧ (apuTick s).pads = s.pads := by
  obtain ⟨b, dmc, -⟩ := apuTick_dmc s
  have head : 0x8000 ≤ (s.apu.tickHead s.cfg).1.dmc.curAddr.toNat := by
    rw [tickHead_dmc]
    exact Dmc.clockTimer_high _ high
  exact ⟨dmc ▸ turnDmc_high s b high, dmcReader_pads (s := { s with apu := (s.apu.tickHead s.cfg).1 }) head⟩

/-- While the DMC reads storage the ports stand still. -/
theorem cycleInvariant_pads (pads : Pads) :
    CycleInvariant fun s => 0x8000 ≤ s.apu.dmc.curAddr.toNat ∧ s.pads = pads where
  cycle s h := by
    obtain ⟨high, same⟩ := h
    change 0x8000 ≤ (clockDevices s).apu.dmc.curAddr.toNat ∧ (clockDevices s).pads = pads
    unfold clockDevices
    split
    · have apu : (ppuDots (dotsThisCycle s) (advancePhase s)).apu = s.apu :=
        (ppuDots_keeps _ _).1.trans (advancePhase_keeps s).1
      obtain ⟨kept, still⟩ := apuTick_pads (s := ppuDots (dotsThisCycle s) (advancePhase s)) (by rw [apu]; exact high)
      exact ⟨kept, still.trans ((ppuDots_pads _ _).trans ((advancePhase_pads s).trans same))⟩
    · exact ⟨by rw [(advancePhase_keeps s).1]; exact high, (advancePhase_pads s).trans same⟩
  owed _ _ h := h
  mark _ _ h := h

/-- Cycles without a stall count one each. -/
theorem unstalled_ticks {s : State} (h : Unstalled s) (n : Nat) : Unstalled (tick^[n] s) ∧
    (tick^[n] s).cycles = s.cycles + n ∧ (tick^[n] s).delta = s.delta + n := by
  induction n with
  | zero => exact ⟨h, rfl, rfl⟩
  | succ n ih =>
    obtain ⟨unstalled, cycles, delta⟩ := ih
    obtain ⟨-, tickCycles, tickDelta⟩ := tick_silent unstalled.bytesLeft
    rw [unstalled.stall] at tickCycles tickDelta
    rw [Function.iterate_succ_apply']
    exact ⟨unstalled.tick, by omega, by omega⟩

end Sys2Proof.Machine

namespace Sys2Proof

open Machine

/-- Settles O38: the head's values, kept by the sequence's cycles, and the load of PC. -/
theorem externalReset : Obligations.ExternalReset := by
  unfold Obligations.ExternalReset
  intro s high t
  obtain ⟨pc, sequence, word⟩ := resetSequence_eq (externalResetHead s)
  have reset : t = setPc pc (resetCycles (externalResetHead s)) := sequence
  have cycles := cycled_resetCycles (externalResetHead s)
  have ticks := resetCycles_eq (externalResetHead s)
  obtain ⟨-, pads⟩ := (cycleInvariant_pads s.pads).ticks 7 (s := externalResetHead s) ⟨high, rfl⟩
  have noNmi (muted : NmiMuted s) := (cycleInvariant_noNmi.ticks 7 (s := externalResetHead s) ⟨muted, rfl⟩).2
  have silent (left : s.apu.dmc.bytesLeft = 0) := unstalled_ticks (s := externalResetHead s) ⟨rfl, left⟩ 7
  rw [← ticks] at pads noNmi silent
  generalize resetCycles (externalResetHead s) = c at *
  clear_value t
  subst reset
  have p : Flags.ofByte 0x24 = Flags.reset := by decide
  refine ⟨?_, word.trans ?_, cycles.trapped, cycles.oamDmaPage, cycles.iPoll, cycles.prevCli, cycles.fault, cycles.cfg,
    ?_, congrArg Cart.mapper cycles.cart, cycles.ppu.ctrl, cycles.ppu.mask, cycles.apu, pads, noNmi, cycles.hung,
    fun left => ?_⟩
  · have regs : c.regs = Regs.atReset s.regs.pc := cycles.regs
    change ({ c.regs with pc := pc } : Regs) = _
    rw [regs, p]
    rfl
  · rfl
  · intro k a
    refine Eq.trans ?_ ((cycles.bytes k a).trans ?_) <;> cases k <;> rfl
  · obtain ⟨unstalled, count, delta⟩ := silent left
    exact ⟨count, delta, unstalled.stall⟩

end Sys2Proof
end


section
/-!
SUPPORT. O42: the driver's entry points and a run return at the first step boundary that stops them; a budget stops
them within as many steps as it has cycles (70_reset_and_hazards.md R680, R682).
-/

namespace Sys2Proof.Machine

/-! ### First boundaries -/

theorem FirstBoundary.congr {p q : Nat → State → Prop} (same : ∀ used t, p used t ↔ q used t) {n : Nat} {s : State} :
    FirstBoundary p n s ↔ FirstBoundary q n s := by
  simp only [FirstBoundary, same]

/-- Where the condition holds at some boundary, there is a first one, or a stall before it never ends. -/
theorem firstBoundary_or_hung {stop : Nat → State → Prop} {n : Nat} {s : State}
    (stops : stop (cyclesUsed n s) (afterSteps n s)) :
    (∃ k ≤ n, FirstBoundary stop k s) ∨ ∃ k, (afterSteps k s).hung = true := by
  by_cases hung : ∃ k, (afterSteps k s).hung = true
  · exact .inr hung
  · have live (k : Nat) : (afterSteps k s).hung = false := by
      simpa using fun h => hung ⟨k, h⟩
    classical
    have some : ∃ m, stop (cyclesUsed m s) (afterSteps m s) := ⟨n, stops⟩
    refine .inl ⟨Nat.find some, Nat.find_min' some stops, Nat.find_spec some, live _, fun m less => ?_⟩
    exact ⟨Nat.find_min some less, live m⟩

/-- Steps of a core with no fault take at least one cycle each, and the cycle counter counts them. -/
theorem running_steps {n : Nat} {s : State} (running : ∀ m < n, (afterSteps m s).fault = none) :
    (afterSteps n s).cycles = s.cycles + cyclesUsed n s ∧ n ≤ cyclesUsed n s := by
  induction n with
  | zero => exact ⟨rfl, le_rfl⟩
  | succ n ih =>
    obtain ⟨cycles, used⟩ := ih fun m less => running m (by omega)
    obtain ⟨positive, count, -⟩ := stepClock (afterSteps n s) (afterSteps (n + 1) s) (running n (by omega)) rfl
    change _ ∧ n + 1 ≤ cyclesUsed n s + (afterSteps (n + 1) s).delta
    refine ⟨?_, by omega⟩
    change _ = s.cycles + (cyclesUsed n s + (afterSteps (n + 1) s).delta)
    omega

/-! ### A budget -/

/-- The condition of `advance`: the budget is used, or the core has a fault. -/
def BudgetMet (budget used : Nat) (t : State) : Prop := budget ≤ used ∨ t.fault ≠ none

/-- The condition of `advance` holds at one of the first boundaries, as many as the budget has cycles. -/
theorem budgetMet_within (budget : Nat) (s : State) :
    ∃ n ≤ budget, BudgetMet budget (cyclesUsed n s) (afterSteps n s) := by
  by_cases running : ∀ m < budget, (afterSteps m s).fault = none
  · exact ⟨budget, le_rfl, .inl (running_steps running).2⟩
  · push Not at running
    obtain ⟨m, less, faulted⟩ := running
    exact ⟨m, less.le, .inr faulted⟩

/-- Before the first boundary of a budget the core has no fault. -/
theorem FirstBoundary.running {budget n : Nat} {s : State} (first : FirstBoundary (BudgetMet budget) n s) :
    ∀ m < n, (afterSteps m s).fault = none := by
  obtain ⟨-, -, before⟩ := first
  intro m less
  by_contra faulted
  exact (before m less).1 (.inr faulted)

/-- The boundary before the first one has used less than the budget. -/
theorem FirstBoundary.before {budget n : Nat} {s : State} (first : FirstBoundary (BudgetMet budget) (n + 1) s) :
    cyclesUsed n s < budget := by
  obtain ⟨-, -, before⟩ := first
  by_contra used
  exact (before n (by omega)).1 (.inl (by omega))

theorem FirstBoundary.le_budget {budget n : Nat} {s : State} (first : FirstBoundary (BudgetMet budget) n s) :
    n ≤ budget := by
  cases n with
  | zero => omega
  | succ n =>
    have steps := (running_steps (n := n) fun m less => first.running m (by omega)).2
    have before := first.before
    omega

theorem advance_some (budget : Nat) (s : State) (r : DriverResult) :
    advance budget s = some r ↔ ∃ n, FirstBoundary (BudgetMet budget) n s ∧
      r = { used := cyclesUsed n s, fault := (afterSteps n s).fault, core := afterSteps n s } := by
  have same (used : Nat) (t : State) : (decide (budget ≤ used) || t.fault.isSome) = true ↔ BudgetMet budget used t := by
    simp [BudgetMet, Option.isSome_iff_ne_none]
  unfold advance
  rw [Option.map_eq_some_iff]
  simp only [stepsTo_some, FirstBoundary.congr same]
  constructor
  · rintro ⟨_, ⟨k, -, rfl, first⟩, rfl⟩
    exact ⟨k, first, rfl⟩
  · rintro ⟨k, first, rfl⟩
    exact ⟨_, ⟨k, first.le_budget, rfl, first⟩, rfl⟩

/-- The cycles used by `advance` are counted, and it overruns its budget by less than its last step. -/
theorem advance_used {budget : Nat} {s : State} {r : DriverResult} (returned : advance budget s = some r) :
    r.core.cycles = s.cycles + r.used ∧ (0 < budget → s.fault = none → r.used < budget + r.core.delta) := by
  obtain ⟨n, first, rfl⟩ := (advance_some budget s r).mp returned
  refine ⟨(running_steps first.running).1, fun positive running => ?_⟩
  cases n with
  | zero =>
    obtain ⟨met, -⟩ := first
    rcases met with used | faulted
    · exact absurd used (by change ¬budget ≤ 0; omega)
    · exact absurd running faulted
  | succ n =>
    have before := first.before
    change cyclesUsed n s + (afterSteps (n + 1) s).delta < budget + (afterSteps (n + 1) s).delta
    omega

theorem advance_none {budget : Nat} {s : State} (none : advance budget s = none) :
    ∃ n, (afterSteps n s).hung = true := by
  obtain ⟨n, -, met⟩ := budgetMet_within budget s
  refine (firstBoundary_or_hung met).resolve_left ?_
  rintro ⟨k, -, first⟩
  have returned := (advance_some budget s _).mpr ⟨k, first, rfl⟩
  rw [none] at returned
  cases returned

/-! ### A wait for vblank -/

theorem vblankReturns_iff (s : State) (r : DriverResult) :
    VblankReturns s r ↔ ∃ n, FirstBoundary (fun _ t => t.ppu.vblEvent = true ∨ t.fault ≠ none) n (clearVblEvent s) ∧
      r = { used := cyclesUsed n (clearVblEvent s), core := afterSteps n (clearVblEvent s)
            fault := if (afterSteps n (clearVblEvent s)).ppu.vblEvent = true then none
              else (afterSteps n (clearVblEvent s)).fault } := by
  have same (used : Nat) (t : State) :
      (t.ppu.vblEvent || t.fault.isSome) = true ↔ t.ppu.vblEvent = true ∨ t.fault ≠ none := by
    simp [Option.isSome_iff_ne_none]
  unfold VblankReturns advanceToNextVblank
  simp only [Option.map_eq_some_iff, stepsTo_some, FirstBoundary.congr same]
  constructor
  · rintro ⟨_, _, ⟨k, -, rfl, first⟩, rfl⟩
    exact ⟨k, first, rfl⟩
  · rintro ⟨k, first, rfl⟩
    exact ⟨k, _, ⟨k, le_rfl, rfl, first⟩, rfl⟩

/-! ### A run -/

/-- A condition that ends a run holds: a fault, a trap, or the driver's condition. -/
def RunStops (c : DriverCall) (used : Nat) (t : State) : Prop :=
  t.fault ≠ none ∨ t.trapped = true ∨ c.met used t = true

theorem runEnd_isSome (c : DriverCall) (used : Nat) (t : State) :
    (runEnd c used t).isSome = true ↔ RunStops c used t := by
  unfold runEnd RunStops
  cases t.fault <;> cases t.trapped <;> cases c.met used t <;> simp

/-- How a run ends where a condition holds: a fault comes first, then the trap. -/
theorem runEnd_some {c : DriverCall} {used : Nat} {t : State} (stops : RunStops c used t) (e : RunEnd) :
    runEnd c used t = some e ↔ (∀ kind, t.fault = some kind → e = .faulted kind) ∧
      (t.fault = none → t.trapped = true → e = .halted) ∧ (t.fault = none → t.trapped = false → e = .suspended) := by
  unfold RunStops at stops
  unfold runEnd
  cases fault : t.fault with
  | some kind => simpa using eq_comm
  | none =>
    cases trapped : t.trapped with
    | true => simpa using eq_comm
    | false =>
      have met : c.met used t = true := by simpa [fault, trapped] using stops
      simpa [met] using eq_comm

theorem runEnds_iff (c : DriverCall) (s : State) (r : RunResult) :
    RunEnds c s r ↔ ∃ n, FirstBoundary (RunStops c) n (c.start s) ∧ r.core = afterSteps n (c.start s) ∧
      r.used = cyclesUsed n (c.start s) ∧
      runEnd c (cyclesUsed n (c.start s)) (afterSteps n (c.start s)) = some r.ended := by
  unfold RunEnds run
  simp only [Option.bind_eq_some_iff, Option.map_eq_some_iff, stepsTo_some, FirstBoundary.congr (runEnd_isSome c)]
  constructor
  · rintro ⟨_, _, ⟨k, -, rfl, first⟩, e, ended, rfl⟩
    exact ⟨k, first, rfl, rfl, ended⟩
  · rintro ⟨k, first, core, used, ended⟩
    refine ⟨k, _, ⟨k, le_rfl, rfl, first⟩, r.ended, ended, ?_⟩
    rw [← core, ← used]

/-- A run under a budget ends, but for a stall that never ends. -/
theorem budget_run_ends (budget : Nat) (s : State) :
    (∃ r, RunEnds (.budget budget) s r) ∨ ∃ n, (afterSteps n s).hung = true := by
  obtain ⟨n, -, met⟩ := budgetMet_within budget s
  have stops : RunStops (.budget budget) (cyclesUsed n s) (afterSteps n s) :=
    met.elim (fun used => .inr (.inr (decide_eq_true used))) .inl
  refine (firstBoundary_or_hung stops).imp_left ?_
  rintro ⟨k, -, first⟩
  obtain ⟨e, ended⟩ := Option.isSome_iff_exists.mp ((runEnd_isSome _ _ _).mpr first.1)
  exact ⟨_, (runEnds_iff _ _ { ended := e, used := cyclesUsed k s, core := afterSteps k s }).mpr
    ⟨k, first, rfl, rfl, ended⟩⟩

/-- Settles O42: each entry point gives the first boundary of its condition (`advance_some`, `vblankReturns_iff`,
`runEnds_iff`), and a budget has one within as many steps as it has cycles (`budgetMet_within`). -/
theorem driverBoundaries : Obligations.DriverBoundaries := by
  unfold Obligations.DriverBoundaries
  refine ⟨fun budget s => ⟨advance_some budget s, fun r => advance_used, advance_none, budget_run_ends budget s⟩,
    vblankReturns_iff, fun c s r => (runEnds_iff c s r).trans (exists_congr fun n => ?_)⟩
  exact and_congr_right fun first => and_congr_right fun _ => and_congr_right fun _ => runEnd_some first.1 r.ended

end Sys2Proof.Machine
end


section
/-!
SUPPORT. O34: the cycles of a step in flat mode. A run of cycles with nothing pending is extended cycle by cycle; each
access class and each sequence of its own extends it by a number, which the opcode table's columns give
(40_addressing_modes.md R257, R259).
-/

namespace Sys2Proof.Machine

/-! ### Runs of flat cycles -/

/-- `n` cycles lead from `s` to `t` in flat mode, with no stall, request, transfer or mark there. -/
structure FlatRun (n : Nat) (s t : State) : Prop where
  mode : t.cfg.busMode = .flat64k
  cfg : t.cfg = s.cfg
  stall : t.stall = 0
  nmi : t.nmiPending = false
  dma : t.oamDmaPage = none
  hung : t.hung = false
  count : t.delta = s.delta + n

theorem FlatReady.run {s : State} (ready : FlatReady s) : FlatRun 0 s s where
  mode := ready.mode
  cfg := rfl
  stall := ready.stall
  nmi := ready.nmi
  dma := ready.dma
  hung := ready.hung
  count := rfl

section
variable {n : Nat} {s t : State} (h : FlatRun n s t)
include h

theorem FlatRun.drainStall : Machine.drainStall t = t := drainStall_of_none t h.stall

theorem FlatRun.endCycle : FlatRun (n + 1) s (endCycle t) := by
  have mode := h.mode
  have count : t.delta + 1 = s.delta + (n + 1) := by rw [h.count]; rfl
  unfold Machine.endCycle clockDevices
  rw [mode]
  unfold advancePhase
  cases region : t.cfg.region with
  | ntsc => exact ⟨mode, h.cfg, h.stall, h.nmi, h.dma, h.hung, count⟩
  | pal => exact ⟨mode, h.cfg, h.stall, h.nmi, h.dma, h.hung, count⟩

theorem FlatRun.tick : FlatRun (n + 1) s (tick t) := by
  unfold Machine.tick
  rw [h.drainStall]
  exact h.endCycle

theorem FlatRun.memRead (addr : Addr) : FlatRun (n + 1) s (memRead addr t).2 := by
  have read : (busRead addr t).2 = t := by unfold busRead; rw [h.mode]
  unfold Machine.memRead
  rw [h.drainStall]
  dsimp only
  rw [read]
  exact h.endCycle

theorem FlatRun.memWrite (addr : Addr) (v : Byte) : FlatRun (n + 1) s (memWrite addr v t) := by
  have write : busWrite addr v t = { t with flat := t.flat.write addr.toNat v } := by unfold busWrite; rw [h.mode]
  have written : FlatRun n s { t with flat := t.flat.write addr.toNat v } :=
    ⟨h.mode, h.cfg, h.stall, h.nmi, h.dma, h.hung, h.count⟩
  unfold Machine.memWrite
  rw [h.drainStall, write]
  exact written.endCycle

theorem FlatRun.setRegs (f : Regs → Regs) : FlatRun n s (setRegs f t) :=
  ⟨h.mode, h.cfg, h.stall, h.nmi, h.dma, h.hung, h.count⟩

theorem FlatRun.setPc (pc : Addr) : FlatRun n s (setPc pc t) := h.setRegs _

theorem FlatRun.setFlags (f : Flags → Flags) : FlatRun n s (setFlags f t) := h.setRegs _

theorem FlatRun.push (v : Byte) : FlatRun (n + 1) s (push v t) := (h.memWrite _ v).setRegs _

theorem FlatRun.pull : FlatRun (n + 1) s (pull t).2 := (h.setRegs _).memRead _

theorem FlatRun.fetchByte : FlatRun (n + 1) s (fetchByte t).2 :=
  (h.memRead t.regs.pc).setRegs fun q => { q with pc := q.pc + 1 }

theorem FlatRun.zpPointer (p : Byte) : FlatRun (n + 2) s (zpPointer p t).2 := (h.memRead _).memRead _

theorem FlatRun.loadVector (vec : Addr) : FlatRun (n + 2) s (loadVector vec t) := ((h.memRead _).memRead _).setPc _

/-- The latch that an interrupt entry clears or leaves was clear. -/
theorem FlatRun.acknowledge (vec : Addr) :
    FlatRun n s { t with nmiPending := if vec = 0xFFFA#16 then false else t.nmiPending } := by
  have clear : (if vec = 0xFFFA#16 then false else t.nmiPending) = false := by rw [h.nmi, ite_self]
  exact ⟨h.mode, h.cfg, h.stall, clear, h.dma, h.hung, h.count⟩

end

/-! ### The effective address -/

theorem pageCrossed_eq (base ea : Addr) : pageCrossed base ea = (base.toNat / 256 != ea.toNat / 256) := by
  have fits (w : Addr) : w.toNat / 256 % 256 = w.toNat / 256 := Nat.mod_eq_of_lt (by have := w.isLt; omega)
  rw [pageCrossed, Bool.eq_iff_iff, bne_iff_ne, bne_iff_ne, hiByte_eq_ofNat, hiByte_eq_ofNat, ne_comm, Ne, Ne,
    ← BitVec.toNat_inj, BitVec.toNat_ofNat, BitVec.toNat_ofNat, fits, fits]

/-- The cycles of an indexed mode's addition: for a read, one where it crosses a page. -/
def indexCycles (cls : AccessClass) (crosses : Bool) : Nat :=
  match cls with
  | .read => if crosses = true then 1 else 0
  | .write => 1
  | .rmw => 1

/-- The cycles of a mode's address after the operand bytes. -/
def addressCycles (cls : AccessClass) (crosses : Bool) : EaMode → Nat
  | .zp _ => 0
  | .zpx _ => 1
  | .zpy _ => 1
  | .abs _ => 0
  | .abx _ => indexCycles cls crosses
  | .aby _ => indexCycles cls crosses
  | .izx _ => 3
  | .izy _ => 2 + indexCycles cls crosses

theorem FlatRun.indexedAddress {n : Nat} {s t : State} (h : FlatRun n s t) (cls : AccessClass) (base : Addr)
    (index : Byte) : FlatRun (n + indexCycles cls (base.toNat / 256 != (base.toNat + index.toNat) % 65536 / 256)) s
      (indexedAddress cls base index t).2 := by
  have crosses : pageCrossed base (base + zext16 index)
      = (base.toNat / 256 != (base.toNat + index.toNat) % 65536 / 256) := by
    rw [pageCrossed_eq, BitVec.toNat_add, zext16_toNat]
  cases cls with
  | read =>
    unfold Machine.indexedAddress
    rw [← crosses]
    dsimp only [indexCycles]
    split
    · exact h.tick
    · exact h
  | write => exact h.tick
  | rmw => exact h.tick

theorem FlatRun.effectiveAddress {n : Nat} {s t : State} (h : FlatRun n s t) (cls : AccessClass) (m : EaMode) :
    FlatRun (n + addressCycles cls (crossesPage t m) m) s (effectiveAddress cls m t).2 := by
  cases m with
  | zp b => exact h
  | zpx b => exact h.tick
  | zpy b => exact h.tick
  | abs w => exact h
  | abx w => exact h.indexedAddress cls w t.regs.x
  | aby w => exact h.indexedAddress cls w t.regs.y
  | izx b => exact h.tick.zpPointer _
  | izy b =>
    have index : (Machine.zpPointer b t).2.regs.y = t.regs.y := congrArg Regs.y (cycled_zpPointer b t).regs
    have indexed := (h.zpPointer b).indexedAddress cls (Machine.zpPointer b t).1
      (Machine.zpPointer b t).2.regs.y
    rw [zpPointer_toNat, index, Nat.add_assoc] at indexed
    unfold Machine.effectiveAddress
    dsimp only
    rw [index]
    exact indexed

/-! ### What runs -/

/-- In flat mode, under the parameters, the meaning answers a next state after `cycles` of the state. -/
def Takes (c : Params) (cycles : State → Nat) (run : State → Host.Outcome State Fault Refusal) : Prop :=
  ∀ n s t, FlatRun n s t → t.cfg = c → ∃ u, run t = .next u ∧ FlatRun (n + cycles t) s u

variable {c : Params}

theorem takes_immediate (op : Byte → Regs → Regs) (m : Byte) : Takes c (fun _ => 0) (runImmediate op m) :=
  fun _ _ _ h _ => ⟨_, rfl, h.setRegs _⟩

theorem takes_read (op : Byte → Regs → Regs) (m : EaMode) :
    Takes c (fun t => addressCycles .read (crossesPage t m) m + 1) (runRead op m) :=
  fun _ _ _ h _ => ⟨_, rfl, ((h.effectiveAddress .read m).memRead _).setRegs _⟩

theorem takes_write (value : Regs → Byte) (m : EaMode) :
    Takes c (fun t => addressCycles .write (crossesPage t m) m + 1) (runWrite value m) :=
  fun _ _ _ h _ => ⟨_, rfl, (h.effectiveAddress .write m).memWrite _ _⟩

theorem takes_modify (op : Byte → Regs → Byte × Regs) (m : EaMode) :
    Takes c (fun t => addressCycles .rmw (crossesPage t m) m + 3) (runModify op m) :=
  fun _ _ _ h _ => ⟨_, rfl, ((((h.effectiveAddress .rmw m).memRead _).tick).setRegs _).memWrite _ _⟩

theorem takes_accumulator (op : Byte → Regs → Byte × Regs) : Takes c (fun _ => 1) (runAccumulator op) :=
  fun _ _ _ h _ => ⟨_, rfl, h.tick.setRegs _⟩

theorem takes_implied (op : Regs → Regs) : Takes c (fun _ => 1) (runImplied op) :=
  fun _ _ _ h _ => ⟨_, rfl, h.tick.setRegs _⟩

/-- An optional opcode is its operation where it is no slot. -/
theorem Takes.optional {cycles : State → Nat} {run : State → Host.Outcome State Fault Refusal}
    (takes : Takes c cycles run) (extra : c.extraUnofficial = true) : Takes c cycles (runOptional run) := by
  intro n s t h cfg
  rw [runOptional_of_extra (cfg.symm ▸ extra)]
  exact takes n s t h cfg

theorem takes_nop : Takes c (fun _ => 1) execNop := fun _ _ _ h _ => ⟨_, rfl, h.tick⟩

theorem takes_jam : Takes c (fun _ => 0) execJam02 :=
  fun _ _ _ h _ => ⟨_, rfl, ⟨h.mode, h.cfg, h.stall, h.nmi, h.dma, h.hung, h.count⟩⟩

theorem takes_jmpAbs (addr : Addr) : Takes c (fun _ => 0) (execJmpAbs addr) := fun _ _ _ h _ => ⟨_, rfl, h.setPc _⟩

theorem takes_jmpInd (addr : Addr) : Takes c (fun _ => 2) (execJmpInd addr) :=
  fun _ _ _ h _ => ⟨_, rfl, ((h.memRead _).memRead _).setPc _⟩

theorem takes_jsr (addr : Addr) : Takes c (fun _ => 4) (execJsrAbs addr) :=
  fun _ _ _ h _ => ⟨_, rfl, (((h.tick.push _).push _).memRead _).setPc _⟩

theorem takes_rts : Takes c (fun _ => 5) execRts :=
  fun _ _ _ h _ => ⟨_, rfl, h.tick.tick.pull.pull.tick.setPc _⟩

theorem takes_rti : Takes c (fun _ => 5) execRti :=
  fun _ _ _ h _ => ⟨_, rfl, ((h.tick.tick.pull.setFlags _).pull.pull).setPc _⟩

theorem takes_brk : Takes c (fun _ => 6) execBrk := by
  intro n s t h _
  refine ⟨_, rfl, ?_⟩
  have fetched := h.tick.setRegs fun r => { r with pc := r.pc + 1 }
  have entered : FlatRun (n + 4) s (enterPush .brk (setRegs (fun r => { r with pc := r.pc + 1 }) (tick t))) :=
    (((fetched.push _).push _).push _).setFlags fun p => { p with i := true }
  exact (entered.acknowledge _).loadVector _

theorem takes_pushed : Takes c (fun _ => 2) execPha ∧ Takes c (fun _ => 2) execPhp :=
  ⟨fun _ _ _ h _ => ⟨_, rfl, h.tick.push _⟩, fun _ _ _ h _ => ⟨_, rfl, h.tick.push _⟩⟩

theorem takes_pulled : Takes c (fun _ => 3) execPla ∧ Takes c (fun _ => 3) execPlp :=
  ⟨fun _ _ _ h _ => ⟨_, rfl, h.tick.tick.pull.setRegs _⟩, fun _ _ _ h _ => ⟨_, rfl, h.tick.tick.pull.setFlags _⟩⟩

/-- A branch takes one cycle if it is taken, two across a page. -/
theorem takes_branch (condition : Flags → Bool) (off : Byte) :
    Takes c (fun t => if condition t.regs.p = false then 0
      else if (branchTarget t.regs.pc off).toNat / 256 = t.regs.pc.toNat / 256 then 1 else 2)
      (runBranch condition off) := by
  intro n s t h _
  refine ⟨_, rfl, ?_⟩
  dsimp only
  cases taken : condition t.regs.p with
  | false => exact h
  | true =>
    have crossed := pageCrossed_eq t.regs.pc (branchTarget t.regs.pc off)
    change FlatRun (n + ite _ 1 2) s (takeBranch off t)
    unfold takeBranch
    dsimp only
    split
    next same =>
      rw [crossed, if_neg (by simp [same])]
      exact h.tick.setPc _
    next other =>
      rw [crossed, if_pos (by simpa using fun e => other e.symm)]
      exact h.tick.tick.setPc _

end Sys2Proof.Machine
end


section
/-!
SUPPORT. O34, the opcode table: the cycles of every opcode's fetch and meaning are those its columns give
(40_addressing_modes.md R257, R259).
-/

namespace Sys2Proof.Machine

/-! ### Every opcode's cycles -/

/-- The bytes of an instruction that is no slot, fetched before it executes. -/
def ownFetch (i : Instr) : Nat := if i.mnemonic = .JSR then 2 else (encode i).length

/-- The base cycles of an opcode, with the penalty where its operand's address crosses a page. -/
def tableCycles (i : Instr) (crosses : Bool) : Nat :=
  i.baseCycles + if i.penalty = 1 ∧ crosses = true then 1 else 0

/-- The opcode's cycles in the table are its fetch and its meaning's cycles. -/
inductive Timed (c : Params) (i : Instr) : Prop
  | fixed (k : Nat) (takes : Takes c (fun _ => k) (exec i)) (none : ∀ s, extraCycles i s = 0)
      (count : i.baseCycles = ownFetch i + k)
  | memory (cls : AccessClass) (m : EaMode) (k : Nat)
      (takes : Takes c (fun t => addressCycles cls (crossesPage t m) m + k) (exec i))
      (operand : instrOperand i = .memory m)
      (count : ∀ crosses, tableCycles i crosses = ownFetch i + (addressCycles cls crosses m + k))
  | slot (slot : i.isSlot c = true)
  | branch (condition : Flags → Bool) (branch : branchCondition i.mnemonic = some condition) (fetch : ownFetch i = 2)
      (count : i.baseCycles = 2)

section
variable {c : Params} {i : Instr} {m : EaMode} (operand : instrOperand i = .memory m)
include operand

theorem Timed.read {op : Byte → Regs → Regs} (meaning : exec i = runRead op m)
    (inside : tableCycles i false = ownFetch i + (addressCycles .read false m + 1))
    (across : tableCycles i true = ownFetch i + (addressCycles .read true m + 1)) : Timed c i :=
  .memory .read m 1 (meaning ▸ takes_read op m) operand fun | true => across | false => inside

theorem Timed.write {value : Regs → Byte} (meaning : exec i = runWrite value m)
    (inside : tableCycles i false = ownFetch i + (addressCycles .write false m + 1))
    (across : tableCycles i true = ownFetch i + (addressCycles .write true m + 1)) : Timed c i :=
  .memory .write m 1 (meaning ▸ takes_write value m) operand fun | true => across | false => inside

theorem Timed.modify {op : Byte → Regs → Byte × Regs} (meaning : exec i = runModify op m)
    (inside : tableCycles i false = ownFetch i + (addressCycles .rmw false m + 3))
    (across : tableCycles i true = ownFetch i + (addressCycles .rmw true m + 3)) : Timed c i :=
  .memory .rmw m 3 (meaning ▸ takes_modify op m) operand fun | true => across | false => inside

end

theorem Timed.optional {c : Params} {i : Instr} (optional : i.optional = true)
    (timed : c.extraUnofficial = true → Timed c i) : Timed c i := by
  cases extra : c.extraUnofficial with
  | true => exact timed extra
  | false => exact .slot (by simp [Instr.isSlot, optional, extra])

/-- Every opcode has the cycles of its columns. -/
theorem timed (c : Params) : ∀ i : Instr, Timed c i
  | .oraImm _ | .andImm _ | .eorImm _ | .adcImm _ | .nopImm80 _ | .nopImm82 _ | .nopImm89 _ | .ldyImm _ | .ldxImm _
  | .ldaImm _ | .cpyImm _ | .nopImmC2 _ | .cmpImm _ | .cpxImm _ | .nopImmE2 _ | .sbcImm _ | .sbcImmEB _ =>
    .fixed 0 (takes_immediate _ _) (fun _ => rfl) rfl
  | .oraIzx _ | .nopZp04 _ | .oraZp _ | .nopAbs _ | .oraAbs _ | .oraIzy _ | .nopZpx14 _ | .oraZpx _ | .oraAby _
  | .nopAbx1C _ | .oraAbx _ | .andIzx _ | .bitZp _ | .andZp _ | .bitAbs _ | .andAbs _ | .andIzy _ | .nopZpx34 _
  | .andZpx _ | .andAby _ | .nopAbx3C _ | .andAbx _ | .eorIzx _ | .nopZp44 _ | .eorZp _ | .eorAbs _ | .eorIzy _
  | .nopZpx54 _ | .eorZpx _ | .eorAby _ | .nopAbx5C _ | .eorAbx _ | .adcIzx _ | .nopZp64 _ | .adcZp _ | .adcAbs _
  | .adcIzy _ | .nopZpx74 _ | .adcZpx _ | .adcAby _ | .nopAbx7C _ | .adcAbx _ | .ldaIzx _ | .laxIzx _ | .ldyZp _
  | .ldaZp _ | .ldxZp _ | .laxZp _ | .ldyAbs _ | .ldaAbs _ | .ldxAbs _ | .laxAbs _ | .ldaIzy _ | .laxIzy _
  | .ldyZpx _ | .ldaZpx _ | .ldxZpy _ | .laxZpy _ | .ldaAby _ | .ldyAbx _ | .ldaAbx _ | .ldxAby _ | .laxAby _
  | .cmpIzx _ | .cpyZp _ | .cmpZp _ | .cpyAbs _ | .cmpAbs _ | .cmpIzy _ | .nopZpxD4 _ | .cmpZpx _ | .cmpAby _
  | .nopAbxDC _ | .cmpAbx _ | .sbcIzx _ | .cpxZp _ | .sbcZp _ | .cpxAbs _ | .sbcAbs _ | .sbcIzy _ | .nopZpxF4 _
  | .sbcZpx _ | .sbcAby _ | .nopAbxFC _ | .sbcAbx _ => .read rfl rfl rfl rfl
  | .staIzx _ | .saxIzx _ | .styZp _ | .staZp _ | .stxZp _ | .saxZp _ | .styAbs _ | .staAbs _ | .stxAbs _
  | .saxAbs _ | .staIzy _ | .styZpx _ | .staZpx _ | .stxZpy _ | .saxZpy _ | .staAby _ | .staAbx _ =>
    .write rfl rfl rfl rfl
  | .sloIzx _ | .aslZp _ | .sloZp _ | .aslAbs _ | .sloAbs _ | .sloIzy _ | .aslZpx _ | .sloZpx _ | .sloAby _
  | .aslAbx _ | .sloAbx _ | .rlaIzx _ | .rolZp _ | .rlaZp _ | .rolAbs _ | .rlaAbs _ | .rlaIzy _ | .rolZpx _
  | .rlaZpx _ | .rlaAby _ | .rolAbx _ | .rlaAbx _ | .sreIzx _ | .lsrZp _ | .sreZp _ | .lsrAbs _ | .sreAbs _
  | .sreIzy _ | .lsrZpx _ | .sreZpx _ | .sreAby _ | .lsrAbx _ | .sreAbx _ | .rraIzx _ | .rorZp _ | .rraZp _
  | .rorAbs _ | .rraAbs _ | .rraIzy _ | .rorZpx _ | .rraZpx _ | .rraAby _ | .rorAbx _ | .rraAbx _ | .dcpIzx _
  | .decZp _ | .dcpZp _ | .decAbs _ | .dcpAbs _ | .dcpIzy _ | .decZpx _ | .dcpZpx _ | .dcpAby _ | .decAbx _
  | .dcpAbx _ | .isbIzx _ | .incZp _ | .isbZp _ | .incAbs _ | .isbAbs _ | .isbIzy _ | .incZpx _ | .isbZpx _
  | .isbAby _ | .incAbx _ | .isbAbx _ => .modify rfl rfl rfl rfl
  | .aslAcc | .rolAcc | .lsrAcc | .rorAcc => .fixed 1 (takes_accumulator _) (fun _ => rfl) rfl
  | .clc | .sec | .cli | .sei | .dey | .txa | .tya | .txs | .tay | .tax | .clv | .tsx | .iny | .dex | .cld | .inx
  | .sed => .fixed 1 (takes_implied _) (fun _ => rfl) rfl
  | .bmiRel _ | .bvsRel _ | .bcsRel _ | .beqRel _ | .bplRel _ | .bvcRel _ | .bccRel _ | .bneRel _ =>
    .branch _ rfl rfl rfl
  | .ancImm0B _ | .ancImm2B _ | .alrImm _ | .arrImm _ | .sbxImm _ =>
    .optional rfl fun extra => .fixed 0 ((takes_immediate _ _).optional extra) (fun _ => rfl) rfl
  | .lasAby _ =>
    .optional rfl fun extra =>
      .memory .read _ 1 ((takes_read _ _).optional extra) rfl (fun | true => rfl | false => rfl)
  | .xaaImm _ | .shaIzy _ | .tasAby _ | .shyAbx _ | .shxAby _ | .shaAby _ | .lxaImm _ => .slot rfl
  | .nop1A | .nop3A | .nop5A | .nop7A | .nopDA | .nop | .nopFA => .fixed 1 takes_nop (fun _ => rfl) rfl
  | .jam02 | .jam12 | .jam22 | .jam32 | .jam42 | .jam52 | .jam62 | .jam72 | .jam92 | .jamB2 | .jamD2 | .jamF2 =>
    .fixed 0 takes_jam (fun _ => rfl) rfl
  | .jmpAbs _ => .fixed 0 (takes_jmpAbs _) (fun _ => rfl) rfl
  | .jmpInd _ => .fixed 2 (takes_jmpInd _) (fun _ => rfl) rfl
  | .jsrAbs _ => .fixed 4 (takes_jsr _) (fun _ => rfl) rfl
  | .rts => .fixed 5 takes_rts (fun _ => rfl) rfl
  | .rti => .fixed 5 takes_rti (fun _ => rfl) rfl
  | .brk => .fixed 6 takes_brk (fun _ => rfl) rfl
  | .pha => .fixed 2 takes_pushed.1 (fun _ => rfl) rfl
  | .php => .fixed 2 takes_pushed.2 (fun _ => rfl) rfl
  | .pla => .fixed 3 takes_pulled.1 (fun _ => rfl) rfl
  | .plp => .fixed 3 takes_pulled.2 (fun _ => rfl) rfl

/-! ### Their sum -/

theorem branchTaken_of_branchCondition {m : Mnemonic} {condition : Flags → Bool}
    (branch : branchCondition m = some condition) (p : Flags) : branchTaken m p = condition p := by
  cases m
  case BCC | BCS | BNE | BEQ | BPL | BMI | BVC | BVS =>
    cases branch
    simp [branchTaken, beq_eq_decide]
  all_goals cases branch

/-- A page is crossed in the state an instruction executes in where it is in the state it is fetched in. -/
theorem Fetched.crossesPage {n : Nat} {s t : State} (h : Fetched n s t) (m : EaMode) :
    crossesPage t m = crossesPage s m := by
  have x : t.regs.x = s.regs.x := by rw [h.regs]
  have y : t.regs.y = s.regs.y := by rw [h.regs]
  have byte (a : Nat) : zeroPageByte t a = zeroPageByte s a := by
    simp only [zeroPageByte, h.undisturbed.control.cfg, h.undisturbed.bytes _ a]
  have word (p : Nat) : zeroPageWord t p = zeroPageWord s p := by
    simp only [zeroPageWord, byte]
  cases m <;> simp only [Machine.crossesPage, specBase, specAddress, x, y, word]

/-- An instruction that is no slot takes its opcode's cycles, its fetch among them. -/
theorem exec_cycles {i : Instr} {s t : State} (notSlot : i.isSlot s.cfg = false) (fetched : Fetched (ownFetch i) s t)
    (run : FlatRun (ownFetch i) s t) :
    ∃ u, exec i t = .next u ∧ FlatRun (i.baseCycles + extraCycles i s) s u := by
  cases timed s.cfg i with
  | slot slot => cases notSlot.symm.trans slot
  | fixed k takes none count =>
    rw [none, count]
    exact takes _ _ _ run run.cfg
  | memory cls m k takes operand count =>
    obtain ⟨u, next, ran⟩ := takes _ _ _ run run.cfg
    have cycles : i.baseCycles + extraCycles i s = tableCycles i (Machine.crossesPage s m) := by
      unfold extraCycles tableCycles
      rw [operand]
    dsimp only at ran
    rw [fetched.crossesPage, ← count, ← cycles] at ran
    exact ⟨u, next, ran⟩
  | branch condition branch fetch count =>
    obtain ⟨off, operand, meaning⟩ := exec_of_branchCondition branch
    obtain ⟨u, next, ran⟩ := takes_branch (c := s.cfg) condition off _ _ _ run run.cfg
    have flags : t.regs.p = s.regs.p := by rw [fetched.regs]
    have pc : t.regs.pc = s.regs.pc + 2 := by rw [fetched.regs, fetch]; rfl
    refine ⟨u, meaning ▸ next, ?_⟩
    unfold extraCycles
    rw [operand, count]
    dsimp only
    rw [branchTaken_of_branchCondition branch, ← branchTarget_eq_ofInt, ← pc, ← flags]
    rw [fetch] at ran
    exact ran

end Sys2Proof.Machine
end


section
/-!
SUPPORT. O34, the step: in flat mode a step is the fetch, the meaning and nothing more (70_reset_and_hazards.md R681).
-/

namespace Sys2Proof.Machine

/-! ### The fetch and the end of a flat step -/

/-- A fetch is up to three byte fetches. -/
theorem fetchInstr_flat {s : State} (ready : FlatRun 0 s s) :
    ∃ n ≤ 3, Fetched n s (fetchInstr s).2 ∧ FlatRun n s (fetchInstr s).2 := by
  have one := (fetched_zero s).fetchByte
  have two := one.fetchByte
  have first := ready.fetchByte
  have second := first.fetchByte
  cases cell : opcodeCell (fetchByte s).1 with
  | f1 i =>
    rw [fetchInstr_of_f1 cell]
    exact ⟨1, by omega, one, first⟩
  | f2 f =>
    rw [fetchInstr_of_f2 cell]
    dsimp only
    split
    · exact ⟨1, by omega, one, first⟩
    · exact ⟨2, by omega, two, second⟩
  | f3 f =>
    rw [fetchInstr_of_f3 cell]
    dsimp only
    split
    · exact ⟨1, by omega, one, first⟩
    split
    · exact ⟨2, by omega, two, second⟩
    · exact ⟨3, by omega, two.fetchByte, second.fetchByte⟩

/-- Where storage holds an instruction at PC, its fetch takes a cycle for each of its fetched bytes. -/
theorem fetchInstr_cycles {s : State} {i : Instr} (ready : FlatRun 0 s s)
    (held : ∀ k, k < (encode i).length → storedByte s (s.regs.pc + BitVec.ofNat 16 k) = (encode i)[k]?)
    (short : (encode i).length ≤ 3) :
    (fetchInstr s).1 = i ∧ Fetched (fetchedBytes s.cfg i) s (fetchInstr s).2 ∧
      FlatRun (fetchedBytes s.cfg i) s (fetchInstr s).2 := by
  obtain ⟨instr, fetched⟩ := fetchInstr_encoded held
  obtain ⟨n, few, moved, run⟩ := fetchInstr_flat ready
  have bound : fetchedBytes s.cfg i ≤ 3 := by
    unfold fetchedBytes
    split
    · omega
    split <;> omega
  have pc : s.regs.pc + BitVec.ofNat 16 n = s.regs.pc + BitVec.ofNat 16 (fetchedBytes s.cfg i) :=
    congrArg Regs.pc (moved.regs.symm.trans fetched.regs)
  obtain rfl : n = fetchedBytes s.cfg i := by
    have same := congrArg BitVec.toNat (add_left_cancel pc)
    rw [BitVec.toNat_ofNat, BitVec.toNat_ofNat] at same
    omega
  exact ⟨instr, fetched, run⟩

/-- A flat step takes no interrupt. -/
theorem FlatRun.interruptCheck {n : Nat} {s t : State} (h : FlatRun n s t) (m : Mnemonic) :
    FlatRun n s (interruptCheck m t) := by
  have line : irqLine { t with prevCli := m == .CLI } = false := by unfold irqLine; rw [h.mode]
  unfold Machine.interruptCheck
  dsimp only
  split
  · exact ⟨h.mode, h.cfg, h.stall, h.nmi, h.dma, h.hung, h.count⟩
  · rw [line, if_neg (by simp [h.nmi]), if_neg (by simp)]
    exact ⟨h.mode, h.cfg, h.stall, h.nmi, h.dma, h.hung, h.count⟩

/-- The end of a flat step takes no cycle. -/
theorem FlatRun.finishStep {n : Nat} {s t : State} (h : FlatRun n s t) (m : Mnemonic) (iBefore : Bool) :
    FlatRun n s (finishStep m iBefore t) := by
  have transfer : runOamDma t = t := by unfold runOamDma; rw [h.dma]
  have polled : FlatRun n s (pollFlag m iBefore t) := ⟨h.mode, h.cfg, h.stall, h.nmi, h.dma, h.hung, h.count⟩
  unfold Machine.finishStep
  rw [transfer]
  split
  · exact h
  · exact polled.interruptCheck m

theorem encode_length_le (i : Instr) : (encode i).length ≤ 3 := by
  have encodes := opcodeCell_encodes i
  generalize opcodeCell i.opcode = c at encodes
  cases encodes with
  | f1 bytes => simp [bytes]
  | @f2 f b bytes => simp [bytes b]
  | @f3 f w bytes => simp [bytes w]

/-- In flat mode storage answers at every address with the flat memory's byte. -/
theorem storedByte_flat {s : State} (mode : s.cfg.busMode = .flat64k) (addr : Addr) :
    storedByte s addr = some (cellByte s .flat addr.toNat) := by
  unfold storedByte
  rw [mode]
  rfl

/-- The bytes of the instruction decoded at PC are held there. -/
theorem held_of_decode {s : State} {i : Instr} {rest : List Byte} (mode : s.cfg.busMode = .flat64k)
    (decoded : decode [cellByte s .flat s.regs.pc.toNat, cellByte s .flat (s.regs.pc + 1).toNat,
      cellByte s .flat (s.regs.pc + 2).toNat] = .ok (i, rest)) :
    ∀ k, k < (encode i).length → storedByte s (s.regs.pc + BitVec.ofNat 16 k) = (encode i)[k]? := by
  intro k less
  obtain ⟨-, bytes⟩ := decodeThenEncode i _ rest decoded
  have short := encode_length_le i
  rw [storedByte_flat mode, ← List.getElem?_append_left (l₂ := rest) less, ← bytes]
  obtain rfl | rfl | rfl : k = 0 ∨ k = 1 ∨ k = 2 := by omega
  · rw [BitVec.add_zero]
    rfl
  · rfl
  · rfl

/-- A step whose instruction answers a next state settles in the end of its step; one whose instruction faults is that
fault. -/
theorem step_of_exec {s : State} (running : s.fault = none) (awake : s.trapped = false)
    (live : (fetchInstr { s with delta := 0 }).2.hung = false) :
    let f := fetchInstr { s with delta := 0 }
    (∀ u, exec f.1 f.2 = .next u → step s = settle (finishStep f.1.mnemonic f.2.regs.p.i u)) ∧
      ∀ r, exec f.1 f.2 = .fault r → step s = .fault r := by
  unfold step
  split
  next faulted => cases running.symm.trans faulted
  next =>
    dsimp only
    rw [if_neg (Bool.eq_false_iff.mp awake), if_neg (Bool.eq_false_iff.mp live)]
    exact ⟨fun u next => by rw [next], fun r fault => by rw [fault]⟩

/-- Settles O34: the fetch takes a cycle for each byte (`fetchInstr_cycles`), the meaning the opcode's cycles
(`exec_cycles`), and the end of the step none (`FlatRun.finishStep`). -/
theorem flatCycleCounts : Obligations.FlatCycleCounts := by
  unfold Obligations.FlatCycleCounts
  intro s i rest ready decoded
  have start : FlatRun 0 { s with delta := 0 } { s with delta := 0 } := FlatReady.run { ready with }
  have held := held_of_decode (s := { s with delta := 0 }) ready.mode decoded
  obtain ⟨instr, fetched, run⟩ := fetchInstr_cycles start held (encode_length_le i)
  obtain ⟨answered, faulted⟩ := step_of_exec ready.fault ready.trapped run.hung
  rw [instr] at answered faulted
  generalize (fetchInstr { s with delta := 0 }).2 = t at fetched run answered faulted
  unfold fetchedBytes at fetched run
  cases slot : i.isSlot s.cfg with
  | true =>
    rw [if_pos slot] at run
    rw [if_pos rfl, faulted _ (exec_of_isSlot (run.cfg.symm ▸ slot))]
    exact ⟨_, rfl, run.count.trans (Nat.zero_add 1)⟩
  | false =>
    rw [if_neg (by simp [slot])] at fetched run
    rw [if_neg (by decide)]
    obtain ⟨u, next, ran⟩ := exec_cycles (s := { s with delta := 0 }) slot fetched run
    have finished := ran.finishStep i.mnemonic t.regs.p.i
    rw [answered u next]
    exact ⟨_, settle_next.mpr ⟨finished.hung, rfl⟩, finished.nmi, finished.stall, finished.count.trans (Nat.zero_add _)⟩

end Sys2Proof.Machine
end


section
/-!
SUPPORT. O37: the OAM DMA. Cycles with rendering off and no sample playing count one each and leave OAMADDR; a pair of
the transfer reads the next byte of the page and writes it to the next byte of OAM (61_ppu.md R520, R521).
-/

namespace Sys2Proof.Machine

/-! ### OAMADDR in a cycle -/

theorem busRead_oamaddr (addr : Addr) (s : State) : (busRead addr s).2.ppu.oamaddr = s.ppu.oamaddr := by
  simp only [busRead, consoleRead, padRead, latchButtons, ppuRegRead, Ppu.regRead, apuStatusRead, drawOpenBus]
  (repeat' split) <;> rfl

/-- With rendering off the sprite stage does nothing (61_ppu.md R500). -/
theorem Ppu.spriteStep_of_off (cfg : Params) (c : Cart) {p : Ppu} (off : p.rendering = false) :
    p.spriteStep cfg c = p :=
  if_neg fun on => by simp [off] at on

theorem Ppu.rendering_of_mask {p q : Ppu} (mask : q.mask = p.mask) : q.rendering = p.rendering := by
  simp only [Ppu.rendering, Ppu.showBg, Ppu.showSpr, mask]

/-- With rendering off no dot clears OAMADDR. -/
theorem Ppu.dotStep_oamaddr (cfg : Params) (c : Cart) {p : Ppu} (off : p.rendering = false) :
    (p.dotStep cfg c).oamaddr = p.oamaddr := by
  obtain ⟨_, _, _, _, flags⟩ := p.flagEvents_frame
  obtain ⟨_, _, _, _, _, _, _, _, _, background⟩ := p.flagEvents.background_frame c
  have still : (p.flagEvents.background c).rendering = false :=
    (Ppu.rendering_of_mask (by rw [background, flags])).trans off
  obtain ⟨_, _, pixel⟩ := (p.flagEvents.background c).pixelStep_frame cfg
  obtain ⟨_, _, _, advance⟩ := ((p.flagEvents.background c).pixelStep cfg).advance_frame
  rw [Ppu.dotStep, Ppu.spriteStep_of_off cfg c still, advance, pixel, background, flags]

theorem ppuDots_oamaddr (n : Nat) {s : State} (off : s.ppu.rendering = false) :
    (ppuDots n s).ppu.oamaddr = s.ppu.oamaddr := by
  induction n with
  | zero => rfl
  | succ n ih =>
    rw [ppuDots_succ]
    exact (Ppu.dotStep_oamaddr _ _ ((ppuDots_rendering n s).trans off)).trans ih

theorem dmcReader_oamaddr (s : State) : (dmcReader s).ppu.oamaddr = s.ppu.oamaddr := by
  unfold dmcReader
  split
  · exact busRead_oamaddr _ _
  · rfl

theorem endCycle_oamaddr {s : State} (off : s.ppu.rendering = false) : (endCycle s).ppu.oamaddr = s.ppu.oamaddr := by
  have phase : (advancePhase s).ppu = s.ppu := advancePhase_ppu s
  change (clockDevices s).ppu.oamaddr = _
  unfold clockDevices
  split
  · exact (dmcReader_oamaddr _).trans ((ppuDots_oamaddr _ (phase.symm ▸ off)).trans (congrArg Ppu.oamaddr phase))
  · exact congrArg Ppu.oamaddr phase

/-! ### Silent cycles -/

/-- `n` cycles with no stall and no rendering lead from `s` to `t`, and store nothing. -/
structure SilentCycles (n : Nat) (s t : State) : Prop where
  cycled : Cycled s t
  unstalled : Unstalled t
  off : t.ppu.rendering = false
  oamaddr : t.ppu.oamaddr = s.ppu.oamaddr
  cycles : t.cycles = s.cycles + n
  delta : t.delta = s.delta + n

theorem SilentCycles.refl {s : State} (unstalled : Unstalled s) (off : s.ppu.rendering = false) : SilentCycles 0 s s :=
  ⟨.refl s, unstalled, off, rfl, rfl, rfl⟩

theorem SilentCycles.endCycle {n : Nat} {s t : State} (h : SilentCycles n s t) :
    SilentCycles (n + 1) s (endCycle t) := by
  obtain ⟨cycles, delta⟩ := endCycle_clock t
  have cycled := cycled_endCycle t
  exact ⟨h.cycled.trans cycled, h.unstalled.endCycle, (Ppu.rendering_of_mask cycled.ppu.mask).trans h.off,
    (endCycle_oamaddr h.off).trans h.oamaddr, by rw [cycles, h.cycles]; rfl, by rw [delta, h.delta]; rfl⟩

theorem SilentCycles.tick {n : Nat} {s t : State} (h : SilentCycles n s t) : SilentCycles (n + 1) s (tick t) := by
  rw [Machine.tick, h.unstalled.drainStall]
  exact h.endCycle

theorem SilentCycles.memRead {n : Nat} {s t : State} (h : SilentCycles n s t) (addr : Addr) :
    SilentCycles (n + 1) s (memRead addr t).2 := by
  obtain ⟨dmc, stall, -⟩ := busRead_dmc addr t
  obtain ⟨cycles, delta, -⟩ := busRead_clock addr t
  have cycled := cycled_busRead addr t
  have read : SilentCycles n s (busRead addr t).2 :=
    ⟨h.cycled.trans cycled,
      ⟨stall.trans h.unstalled.stall, (congrArg Dmc.bytesLeft dmc).trans h.unstalled.bytesLeft⟩,
      (Ppu.rendering_of_mask cycled.ppu.mask).trans h.off, (busRead_oamaddr addr t).trans h.oamaddr,
      cycles.trans h.cycles, delta.trans h.delta⟩
  simp only [Machine.memRead, h.unstalled.drainStall]
  exact read.endCycle

/-! ### The pairs -/

/-- The address of a byte of the page. -/
def pageAddr (page : Byte) (i : Nat) : Addr := page ++ BitVec.ofNat 8 i

theorem pageAddr_eq_ofNat (page : Byte) {i : Nat} (inside : i < 256) :
    pageAddr page i = BitVec.ofNat 16 (256 * page.toNat + i) := by
  have := page.isLt
  refine BitVec.eq_of_toNat_eq ?_
  rw [pageAddr, toNat_append_eq, BitVec.toNat_ofNat, BitVec.toNat_ofNat]
  omega

/-- A write of OAMDATA stores at OAMADDR and steps it (61_ppu.md R465). -/
def oamDataWrite (v : Byte) (s : State) : State :=
  { s with ppu := { s.ppu with
      latch := v, oam := s.ppu.oam.write s.ppu.oamaddr.toNat v, oamaddr := s.ppu.oamaddr + 1 } }

theorem busWrite_oamData {s : State} (console : s.cfg.busMode = .console) (v : Byte) :
    busWrite 0x2004#16 v s = oamDataWrite v s := by
  rw [busWrite_ppu v console (by decide) (by decide)]
  change { s with ppu := _, cart := s.cart, nmiPending := s.nmiPending || false } = _
  rw [Bool.or_false]
  rfl

/-- The state after the first `j` pairs of a transfer from `s`. -/
structure PairsDone (page : Byte) (s : State) (j : Nat) (t : State) : Prop where
  regs : t.regs = s.regs
  cfg : t.cfg = s.cfg
  idle : t.oamDmaPage = s.oamDmaPage
  unstalled : Unstalled t
  off : t.ppu.rendering = false
  oamaddr : t.ppu.oamaddr = s.ppu.oamaddr + BitVec.ofNat 8 j
  cycles : t.cycles = s.cycles + 2 * j
  delta : t.delta = s.delta + 2 * j
  stored : ∀ a, storedByte t a = storedByte s a
  copied : ∀ i < j, ∀ v, storedByte s (pageAddr page i) = some v →
    cellByte t .oam ((s.ppu.oamaddr.toNat + i) % 256) = v
  bytes : ∀ k a, (k = .oam → 256 ≤ a) → cellByte t k a = cellByte s k a

theorem pairsDone_zero (page : Byte) {s : State} (unstalled : Unstalled s) (off : s.ppu.rendering = false) :
    PairsDone page s 0 s :=
  ⟨rfl, rfl, rfl, unstalled, off, (BitVec.add_zero _).symm, rfl, rfl, fun _ => rfl, fun _ h => absurd h (by omega),
    fun _ _ _ => rfl⟩

theorem cellByte_oamDataWrite (v : Byte) (s : State) (k : MemKind) (a : Nat) : cellByte (oamDataWrite v s) k a =
    if k = .oam ∧ a = s.ppu.oamaddr.toNat then v else cellByte s k a := by
  cases k
  case oam => simp only [cellByte, oamDataWrite, Memory.byte_write, true_and]
  all_goals rfl

/-- One more pair copies one more byte in two cycles. -/
theorem PairsDone.pair {page : Byte} {s t : State} {j : Nat} (h : PairsDone page s j t)
    (console : s.cfg.busMode = .console) (more : j < 256) :
    PairsDone page s (j + 1) (memWrite 0x2004#16 (memRead (pageAddr page j) t).1 (memRead (pageAddr page j) t).2) := by
  have read := (SilentCycles.refl h.unstalled h.off).memRead (pageAddr page j)
  have value (v : Byte) (held : storedByte s (pageAddr page j) = some v) : (memRead (pageAddr page j) t).1 = v :=
    memRead_stored ((h.stored _).trans held)
  generalize (memRead (pageAddr page j) t).1 = v at value ⊢
  generalize (memRead (pageAddr page j) t).2 = u at read ⊢
  have written := (SilentCycles.refl (s := oamDataWrite v u) { read.unstalled with } read.off).endCycle
  rw [memWrite, read.unstalled.drainStall, busWrite_oamData (by rw [read.cycled.cfg, h.cfg, console])]
  generalize endCycle (oamDataWrite v u) = w at written ⊢
  have bytes (k : MemKind) (a : Nat) : cellByte w k a =
      if k = .oam ∧ a = (s.ppu.oamaddr.toNat + j) % 256 then v else cellByte t k a := by
    rw [written.cycled.bytes k a, cellByte_oamDataWrite, read.oamaddr, h.oamaddr, read.cycled.bytes k a,
      BitVec.toNat_add, BitVec.toNat_ofNat, Nat.add_mod_mod]
  exact {
    regs := written.cycled.regs.trans (read.cycled.regs.trans h.regs)
    cfg := written.cycled.cfg.trans (read.cycled.cfg.trans h.cfg)
    idle := written.cycled.oamDmaPage.trans (read.cycled.oamDmaPage.trans h.idle)
    unstalled := written.unstalled
    off := written.off
    oamaddr := by
      rw [written.oamaddr, oamDataWrite, read.oamaddr, h.oamaddr, BitVec.ofNat_add, BitVec.add_assoc]
      rfl
    cycles := by rw [written.cycles, oamDataWrite, read.cycles, h.cycles]; omega
    delta := by rw [written.delta, oamDataWrite, read.delta, h.delta]; omega
    stored := fun a => (written.cycled.storedByte a).trans ((read.cycled.storedByte a).trans (h.stored a))
    copied := fun i less x held => by
      rw [bytes]
      rcases Nat.lt_succ_iff_lt_or_eq.mp less with before | rfl
      · rw [if_neg (by omega)]
        exact h.copied i before x held
      · rw [if_pos ⟨rfl, rfl⟩]
        exact value x held
    bytes := fun k a outside => by
      rw [bytes, if_neg fun e => by have := outside e.1; omega]
      exact h.bytes k a outside }

/-- The loop makes the pairs that are left. -/
theorem PairsDone.loop {page : Byte} {s t : State} (console : s.cfg.busMode = .console) {k j : Nat}
    (h : PairsDone page s j t) (total : j + k = 256) : PairsDone page s 256 (oamDmaLoop page k t) := by
  induction k generalizing j t with
  | zero =>
    obtain rfl : j = 256 := total
    exact h
  | succ k ih =>
    have next : 255 - k = j := by omega
    unfold oamDmaLoop
    rw [next]
    exact ih (h.pair console (by omega)) (by omega)

/-! ### The transfer -/

/-- The halt cycle and, at an odd cycle number, the alignment cycle. -/
theorem silentCycles_halt {s : State} (unstalled : Unstalled s) (off : s.ppu.rendering = false) (n : Nat) :
    SilentCycles (1 + n % 2) s (if n % 2 = 1 then tick (tick s) else tick s) := by
  have halt := (SilentCycles.refl unstalled off).tick
  split
  next odd =>
    rw [odd]
    exact halt.tick
  next even =>
    rw [show n % 2 = 0 by omega]
    exact halt

/-- Settles O37: the halt and alignment cycles (`silentCycles_halt`), then 256 pairs (`PairsDone.loop`). -/
theorem oamDmaTransfer : Obligations.OamDmaTransfer := by
  unfold Obligations.OamDmaTransfer
  intro page s console requested off stall silent
  have halt := silentCycles_halt (s := { s with oamDmaPage := none }) ⟨stall, silent⟩ off s.cycles
  have transfer : runOamDma s = oamDmaLoop page 256
      (if s.cycles % 2 = 1 then tick (tick { s with oamDmaPage := none }) else tick { s with oamDmaPage := none }) := by
    unfold runOamDma
    rw [requested]
    rfl
  dsimp only
  rw [transfer]
  generalize (if s.cycles % 2 = 1 then tick (tick { s with oamDmaPage := none }) else
    tick { s with oamDmaPage := none }) = u at halt ⊢
  have done := (pairsDone_zero page halt.unstalled halt.off).loop (k := 256)
    (by rw [halt.cycled.cfg]; exact console) rfl
  generalize oamDmaLoop page 256 u = t at done ⊢
  have start : u.ppu.oamaddr = s.ppu.oamaddr := halt.oamaddr
  have bytes (k : MemKind) (a : Nat) : cellByte u k a = cellByte s k a := by
    rw [halt.cycled.bytes k a]
    cases k <;> rfl
  have stored (a : Addr) : storedByte u a = storedByte s a := halt.cycled.storedByte a
  refine ⟨?_, ?_, done.idle.trans halt.cycled.oamDmaPage, done.regs.trans halt.cycled.regs, ?_,
    fun i v inside held => ?_, fun k a outside => (done.bytes k a outside).trans (bytes k a)⟩
  · rw [done.cycles, halt.cycles]
    dsimp only
    omega
  · rw [done.delta, halt.delta]
    dsimp only
    omega
  · rw [done.oamaddr, start]
    exact BitVec.add_zero _
  · rw [← start]
    exact done.copied i inside v (by rw [stored, pageAddr_eq_ofNat page inside, held])

end Sys2Proof.Machine
end


section
/-!
SUPPORT. O39: what the seven cycles of the reset sequence make of the state at power-on (70_reset_and_hazards.md R660 to
R662): the dots of a line without rendering, the APU's ticks without a sample, and what is never in flight.
-/

namespace Sys2Proof.Machine

/-! ### A tick without a sample -/

/-- The APU's tick where the DMC reader fetches nothing (62_apu.md R550, R591). -/
def Apu.silentTick (cfg : Params) (a : Apu) : Apu :=
  let r := a.tickHead cfg
  r.1.tickTail cfg r.2

theorem apuTick_silent {s : State} (silent : s.apu.dmc.bytesLeft = 0) :
    apuTick s = { s with apu := s.apu.silentTick s.cfg } := by
  obtain ⟨-, left⟩ := Dmc.clockTimer_reader s.cfg.region s.apu.dmc
  have idle : (s.apu.tickHead s.cfg).1.dmc.wantsByte = false := by
    rw [tickHead_dmc]
    simp [Dmc.wantsByte, left, silent]
  have reader : dmcReader { s with apu := (s.apu.tickHead s.cfg).1 } = { s with apu := (s.apu.tickHead s.cfg).1 } :=
    if_neg (by simp [idle])
  unfold apuTick
  dsimp only
  rw [reader]
  rfl

/-- The sequencer's fields after such a tick are the sequencer's. -/
theorem Apu.silentTick_fields (cfg : Params) (a : Apu) :
    let t := a.silentTick cfg
    let q := (a.sequencer cfg).1
    t.fc = q.fc ∧ t.fcMode = q.fcMode ∧ t.fcPending = q.fcPending ∧ t.frameIrq = q.frameIrq ∧ t.phase = !a.phase ∧
      t.dmc = a.dmc.clockTimer cfg.region := by
  intro t q
  have head : (a.tickHead cfg).1 = (({ a with phase := !a.phase } : Apu).sequencer cfg).1.timers cfg.region := rfl
  have tick : t = (a.tickHead cfg).1.tickTail cfg (a.tickHead cfg).2 := rfl
  refine ⟨?_, ?_, ?_, ?_, ?_, (congrArg Apu.dmc tick).trans (tickHead_dmc cfg a)⟩ <;>
    rw [tick, head, Apu.sequencer_phase] <;> rfl

/-- Before the last offset a tick counts and raises no interrupt. -/
theorem Apu.silentTick_counting (cfg : Params) {a : Apu} (counting : a.fcPending = none)
    (early : a.fc + 1 ≠ (a.offsets cfg).o4) :
    let t := a.silentTick cfg
    t.fc = a.fc + 1 ∧ t.fcMode = a.fcMode ∧ t.fcPending = none ∧ t.frameIrq = a.frameIrq ∧ t.phase = !a.phase ∧
      t.dmc = a.dmc.clockTimer cfg.region := by
  intro t
  obtain ⟨fc, mode, pending, irq, others⟩ := a.silentTick_fields cfg
  have sequencer := Apu.sequencer_counting cfg (a := a) fun val now => by rw [counting] at now; cases now
  have kept : (a.clockEvent (a.event cfg)).1.fcMode = a.fcMode := by cases a.event cfg <;> rfl
  dsimp only at sequencer
  rw [if_neg early, decide_eq_false early, counting] at sequencer
  rw [sequencer] at fc mode pending irq
  exact ⟨fc, mode.trans kept, pending, irq.trans (Bool.or_false _), others⟩

/-! ### Nothing in flight -/

theorem Length.tick_idle (half : Bool) (l : Length) : (l.tick half).idle := ⟨rfl, rfl⟩

/-- No sample plays, no 0x4017 write is delayed, no length counter has a load or a halt pending, and the PPU's write
toggle is clear. -/
structure AtRest (s : State) : Prop where
  bytesLeft : s.apu.dmc.bytesLeft = 0
  fcPending : s.apu.fcPending = none
  pulse1 : s.apu.pulse1.lc.idle
  pulse2 : s.apu.pulse2.lc.idle
  triangle : s.apu.triangle.lc.idle
  noise : s.apu.noise.lc.idle
  toggle : s.ppu.w = false

theorem AtRest.apuTick {s : State} (h : AtRest s) : AtRest (apuTick s) := by
  obtain ⟨pulse1, pulse2, triangle, noise⟩ := apuTick_lengths s
  have sequencer := Apu.sequencer_counting s.cfg (a := s.apu) fun val now => by rw [h.fcPending] at now; cases now
  obtain ⟨-, -, pending, -, -, dmc⟩ := s.apu.silentTick_fields s.cfg
  rw [sequencer, h.fcPending] at pending
  refine ⟨?_, ?_, pulse1 ▸ Length.tick_idle _ _, pulse2 ▸ Length.tick_idle _ _, triangle ▸ Length.tick_idle _ _,
    noise ▸ Length.tick_idle _ _, ?_⟩ <;> rw [apuTick_silent h.bytesLeft]
  · exact (congrArg Dmc.bytesLeft dmc).trans ((Dmc.clockTimer_reader _ _).2.trans h.bytesLeft)
  · exact pending
  · exact h.toggle

theorem ppuDot_toggle (s : State) : (ppuDot s).ppu.w = s.ppu.w := by
  obtain ⟨_, _, _, _, _, _, _, _, _, dot⟩ := s.ppu.dotStep_frame s.cfg s.cart
  obtain ⟨_, _, _, _, _, _, _, _, _, background⟩ := s.ppu.flagEvents.background_frame s.cart
  obtain ⟨_, _, _, _, flags⟩ := s.ppu.flagEvents_frame
  change (s.ppu.dotStep s.cfg s.cart).w = _
  rw [dot, background, flags]

theorem AtRest.ppuDots {s : State} (h : AtRest s) (n : Nat) : AtRest (ppuDots n s) := by
  induction n with
  | zero => exact h
  | succ n ih =>
    rw [ppuDots_succ]
    exact { ih with toggle := (ppuDot_toggle _).trans ih.toggle }

theorem AtRest.advancePhase {s : State} (h : AtRest s) : AtRest (advancePhase s) := by
  unfold Machine.advancePhase
  split
  · exact h
  · exact { h with }

theorem cycleInvariant_atRest : CycleInvariant AtRest where
  cycle s h := by
    have devices : AtRest (clockDevices s) := by
      unfold clockDevices
      split
      · exact (h.advancePhase.ppuDots _).apuTick
      · exact h.advancePhase
    exact { devices with }
  owed _ _ h := { h with }
  mark _ _ h := { h with }

/-- Whatever the parameters and the cartridge, power-on leaves no fault and nothing in flight. -/
theorem powerOn_launch (cfg : Params) (cart : Cart) :
    NoFault (powerOn cfg cart) ∧ NothingInFlight (powerOn cfg cart) := by
  obtain ⟨pc, sequence, -⟩ := resetSequence_eq (coldState cfg cart)
  have start : AtRest (coldState cfg cart) := ⟨rfl, rfl, ⟨rfl, rfl⟩, ⟨rfl, rfl⟩, ⟨rfl, rfl⟩, ⟨rfl, rfl⟩, rfl⟩
  have rest := cycleInvariant_atRest.ticks 7 start
  have muted : Ppu.reset.ctrl.toNat < 128 := by decide
  have quiet := (cycleInvariant_noNmi.ticks 7 (s := coldState cfg cart) ⟨.inr muted, rfl⟩).2
  have unstalled := (unstalled_ticks (s := coldState cfg cart) ⟨rfl, rfl⟩ 7).1
  have cycles := cycled_resetCycles (coldState cfg cart)
  rw [← resetCycles_eq] at rest quiet unstalled
  rw [powerOn, sequence]
  generalize resetCycles (coldState cfg cart) = c at rest quiet unstalled cycles ⊢
  exact ⟨cycles.fault, unstalled.stall, cycles.oamDmaPage, quiet, cycles.trapped, rest.fcPending, rest.pulse1,
    rest.pulse2, rest.triangle, rest.noise, rest.toggle⟩

/-! ### The dots of the first line -/

/-- The PPU in the first line after power-on: the dot and the drawn pixels alone have changed. -/
def Ppu.topLine (dot : Nat) (frame : Frame) : Ppu := { Ppu.reset with dot := dot, frame := frame }

theorem Ppu.background_of_off (c : Cart) {p : Ppu} (off : p.rendering = false) : p.background c = p :=
  if_neg fun work => by simp [off] at work

/-- Without rendering a dot of the first line draws a pixel and hits nothing. -/
theorem Ppu.pixelStep_topLine (cfg : Params) (dot : Nat) (frame : Frame) :
    ∃ drawn, (Ppu.topLine dot frame).pixelStep cfg = Ppu.topLine dot drawn := by
  unfold Ppu.pixelStep
  split
  · have hidden : (Ppu.topLine dot frame).showBg = false := (by decide : Ppu.reset.showBg = false)
    simp only [hidden, Bool.and_false, Bool.false_and, Bool.or_false]
    exact ⟨_, rfl⟩
  · exact ⟨frame, rfl⟩

theorem Ppu.dotStep_topLine (cfg : Params) (c : Cart) {dot : Nat} (early : dot < 340) (frame : Frame) :
    ∃ drawn, (Ppu.topLine dot frame).dotStep cfg c = Ppu.topLine (dot + 1) drawn := by
  have off : (Ppu.topLine dot frame).rendering = false := (by decide : Ppu.reset.rendering = false)
  have line (f : Frame) : (Ppu.topLine dot f).scanline = 0 := rfl
  have column (f : Frame) : (Ppu.topLine dot f).dot = dot := rfl
  have flags : (Ppu.topLine dot frame).flagEvents = Ppu.topLine dot frame :=
    Ppu.flagEvents_of_other (by rw [line]; omega) (by rw [line]; omega)
  obtain ⟨drawn, pixel⟩ := Ppu.pixelStep_topLine cfg dot frame
  refine ⟨drawn, ?_⟩
  rw [Ppu.dotStep, flags, Ppu.background_of_off c off, Ppu.spriteStep_of_off cfg c off, pixel, Ppu.advance,
    if_neg (by rw [line]; omega), if_neg (by rw [column]; omega)]
  rfl

theorem ppuDots_topLine {s : State} {dot : Nat} {frame : Frame} (ppu : s.ppu = Ppu.topLine dot frame) (n : Nat)
    (early : dot + n ≤ 340) : ∃ drawn, (ppuDots n s).ppu = Ppu.topLine (dot + n) drawn := by
  induction n with
  | zero => exact ⟨frame, ppu⟩
  | succ n ih =>
    obtain ⟨drawn, before⟩ := ih (by omega)
    obtain ⟨next, step⟩ := Ppu.dotStep_topLine (ppuDots n s).cfg (ppuDots n s).cart (dot := dot + n) (by omega) drawn
    rw [ppuDots_succ]
    exact ⟨next, by rw [← before] at step; exact step⟩

/-! ### The cycles after power-on -/

/-- `n` cycles after power-on with the default parameters but START_PC. -/
structure Warming (start : Option Addr) (n : Nat) (s : State) : Prop where
  cfg : s.cfg = { Params.default with startPc := start }
  unstalled : Unstalled s
  ppu : ∃ frame, s.ppu = Ppu.topLine (3 * n) frame
  fc : s.apu.fc = n
  fcMode : s.apu.fcMode = false
  fcPending : s.apu.fcPending = none
  frameIrq : s.apu.frameIrq = false
  dmcIrq : s.apu.dmc.dmcIrq = false
  phase : s.apu.phase = decide (n % 2 = 1)

theorem warming_cold (start : Option Addr) (cart : Cart) :
    Warming start 0 (coldState { Params.default with startPc := start } cart) :=
  ⟨rfl, ⟨rfl, rfl⟩, ⟨_, rfl⟩, rfl, rfl, rfl, rfl, rfl, rfl⟩

/-- A cycle of the start is three dots and a tick without a sample. -/
theorem Warming.tick_eq {start : Option Addr} {n : Nat} {s : State} (h : Warming start n s) :
    (tick s).ppu = (ppuDots 3 s).ppu ∧ (tick s).apu = s.apu.silentTick s.cfg := by
  have phase : advancePhase s = s := by unfold advancePhase; rw [h.cfg]; rfl
  have three : dotsThisCycle s = 3 := by unfold dotsThisCycle; rw [h.cfg]; rfl
  have mode : s.cfg.busMode = .console := by rw [h.cfg]; rfl
  obtain ⟨apu, -, cfg⟩ := ppuDots_keeps 3 s
  have devices : clockDevices s = apuTick (ppuDots 3 s) := by
    unfold clockDevices
    rw [mode, phase, three]
  rw [apuTick_silent (by rw [apu]; exact h.unstalled.bytesLeft), apu, cfg] at devices
  rw [Machine.tick, h.unstalled.drainStall]
  unfold endCycle
  rw [devices]
  exact ⟨rfl, rfl⟩

theorem Warming.tick {start : Option Addr} {n : Nat} {s : State} (h : Warming start n s) (early : n ≤ 100) :
    Warming start (n + 1) (tick s) := by
  obtain ⟨frame, ppu⟩ := h.ppu
  obtain ⟨drawn, dots⟩ := ppuDots_topLine ppu 3 (by omega)
  obtain ⟨ppuNext, apuNext⟩ := h.tick_eq
  have offset : (s.apu.offsets s.cfg).o4 = 29828 := by
    rw [Apu.offsets, h.fcMode, h.cfg]
    rfl
  obtain ⟨fc, mode, pending, irq, phase, dmc⟩ := Apu.silentTick_counting s.cfg h.fcPending (by rw [h.fc, offset]; omega)
  obtain ⟨-, -, -, -, -, -, -, dmcIrq⟩ := Dmc.clockTimer_fields s.cfg.region s.apu.dmc
  rw [← apuNext] at fc mode pending irq phase dmc
  refine ⟨(cycled_tick s).cfg.trans h.cfg, h.unstalled.tick, ⟨drawn, ppuNext.trans dots⟩, by rw [fc, h.fc],
    mode.trans h.fcMode, pending, irq.trans h.frameIrq, by rw [dmc, dmcIrq, h.dmcIrq], ?_⟩
  rw [phase, h.phase, ← decide_not]
  exact decide_eq_decide.mpr (by omega)

theorem warming_ticks (start : Option Addr) (cart : Cart) {n : Nat} (early : n ≤ 100) :
    Warming start n (tick^[n] (coldState { Params.default with startPc := start } cart)) := by
  induction n with
  | zero => exact warming_cold start cart
  | succ n ih =>
    rw [Function.iterate_succ_apply']
    exact (ih (by omega)).tick (by omega)

/-- A state right after power-on with the default parameters but START_PC: the cycles after the reset values, and PC. -/
structure Launched (start : Option Addr) (cart : Cart) (pc : Addr) (c : State) : Prop where
  cycled : Cycled (coldState { Params.default with startPc := start } cart) c
  warming : Warming start 7 c
  cycles : c.cycles = 7
  delta : c.delta = 7
  pads : c.pads = { strobe := false, shift1 := 0, shift2 := 0, host := none }
  pc : pc = start.getD (BitVec.ofNat 16 ((cart.prgByte 0xFFFC).toNat + 256 * (cart.prgByte 0xFFFD).toNat))

theorem powerOn_launched (start : Option Addr) (cart : Cart) : ∃ pc c,
    Machine.powerOn { Params.default with startPc := start } cart = setPc pc c ∧ Launched start cart pc c := by
  obtain ⟨pc, sequence, word⟩ := resetSequence_eq (coldState { Params.default with startPc := start } cart)
  obtain ⟨-, count, delta⟩ := unstalled_ticks
    (s := coldState { Params.default with startPc := start } cart) ⟨rfl, rfl⟩ 7
  have high : 0x8000 ≤ Dmc.reset.curAddr.toNat := by decide
  obtain ⟨-, pads⟩ := (cycleInvariant_pads _).ticks 7
    (s := coldState { Params.default with startPc := start } cart) ⟨high, rfl⟩
  have warming := warming_ticks start cart (n := 7) (by omega)
  have cycled := cycled_resetCycles (coldState { Params.default with startPc := start } cart)
  rw [← resetCycles_eq] at count delta pads warming
  refine ⟨pc, _, sequence, cycled, warming, count, delta, pads, Option.some.inj (word.trans ?_)⟩
  cases start with
  | some pc => rfl
  | none => rfl

/-- The registers after a launch. -/
theorem Launched.regs {start : Option Addr} {cart : Cart} {pc : Addr} {c : State} (h : Launched start cart pc c) :
    (setPc pc c).regs = { a := 0, x := 0, y := 0, s := 0xFD, pc := pc, p := Flags.ofByte 0x24 } := by
  have flags : Flags.ofByte 0x24 = Flags.reset := by decide
  have regs : c.regs = Regs.atReset 0 := h.cycled.regs
  change ({ c.regs with pc := pc } : Regs) = _
  rw [regs, flags]
  rfl

end Sys2Proof.Machine

namespace Sys2Proof

open Machine

/-- Settles O39: the launch's values (`powerOn_launched`), nothing in flight (`powerOn_launch`), and a cartridge that
loads is launched by `powerOn` (`bootCart_ok`). -/
theorem powerOn : Obligations.PowerOn := by
  unfold Obligations.PowerOn
  refine ⟨fun start cart => ?values, powerOn_launch, fun s conformance => ?conformance,
    fun h prg chr s loaded => ?loaded⟩
  case values =>
    obtain ⟨pc, c, launch, launched⟩ := powerOn_launched start cart
    obtain ⟨frame, ppu⟩ := launched.warming.ppu
    have line : irqLine c = false := by
      rw [irqLine, launched.warming.cfg]
      exact Bool.or_eq_false_iff.mpr ⟨launched.warming.frameIrq, launched.warming.dmcIrq⟩
    have drawn : c.ppu = { Ppu.reset with dot := 21, frame := c.ppu.frame } := by
      rw [ppu]
      rfl
    dsimp only
    rw [launch]
    refine ⟨launched.regs, launched.pc.trans ?_, launched.cycles, launched.delta, launched.cycled.iPoll,
      launched.cycled.prevCli, launched.cycled.cart, drawn, launched.warming.fc, launched.warming.phase,
      launched.cycled.apu, line, congrArg Pads.strobe launched.pads, congrArg Pads.shift1 launched.pads,
      congrArg Pads.shift2 launched.pads⟩
    cases start <;> rfl
  case conformance =>
    obtain ⟨⟨cfg, h, prg, chr, -, loaded⟩, -⟩ := conformance
    obtain ⟨-, scheme, rfl⟩ := bootCart_ok loaded
    exact powerOn_launch cfg _
  case loaded =>
    obtain ⟨-, scheme, start⟩ := bootCart_ok loaded
    obtain ⟨pc, c, launch, launched⟩ := powerOn_launched (some 0xC000) (loadedCart h prg chr scheme)
    obtain ⟨frame, ppu⟩ := launched.warming.ppu
    obtain rfl := launched.pc
    refine ⟨⟨_, h, prg, chr, rfl, loaded⟩, ?_⟩
    rw [start, launch]
    exact ⟨launched.regs, launched.cycles, congrArg Ppu.scanline ppu, congrArg Ppu.dot ppu⟩

end Sys2Proof
end
